-- ==== Sys2Proof/Word.lean ====
section
/-!
DEFINITION. The bit-vector types of GISA: a 32-bit word, a byte, a register number
(spec/00_scope.md R5, spec/20_memory.md R40).
-/

namespace Sys2Proof

/-- A 32-bit value: a general register, the PC, an address or an instruction (R5, XLEN = ILEN = 32). -/
abbrev Word := BitVec 32

/-- The unit of addressing: 8 bits (R40). -/
abbrev Byte := BitVec 8

/-- A register field of an instruction: the value i selects Ri (R20). -/
abbrev Reg := BitVec 4

/-- `u(v)`: the value of a word as an unsigned integer (R10). -/
abbrev Word.u (v : Word) : Nat := v.toNat

/-- `s(v)`: the value of a word as a two's-complement signed integer (R10). -/
abbrev Word.s (v : Word) : Int := v.toInt

end Sys2Proof
end

