-- ==== Sys2Proof/Config.lean ====
section
/-!
DEFINITION. The configuration of the machine: the parameters the source leaves open (spec/00_scope.md R6,
spec/92_eei_decisions.md) and what the launch declares (spec/70_reset_and_hazards.md R405, R406). Plain data:
the state carries one configuration and no step changes it (assumption 5), so a statement about every state
speaks of every value of every parameter.
-/

namespace Sys2Proof

/-- `BYTE_ORDER` (D1): which byte of a halfword or word lies at the lowest address (R45). -/
inductive ByteOrder where
  | little
  | big
  deriving DecidableEq, Repr

/-- `MISALIGNED_DATA` (D2): what a data access does at an address that is no multiple of its width (R47). -/
inductive MisalignedData where
  | allow
  | refuse
  deriving DecidableEq, Repr

/-- `SHIFT_OVER_31` (D12): the reading of a shift amount of 32 or more (R202). -/
inductive ShiftOver31 where
  | iterate
  | low5
  deriving DecidableEq, Repr

/-- `SHIFT_ZERO_CARRY` (D13): C after a flag-setting shift by 0 (R201). -/
inductive ShiftZeroCarry where
  | zero
  | unchanged
  deriving DecidableEq, Repr

/-- `MUL_FLAG_PRODUCT` (D14): which 64-bit product feeds C and V of MUL (R151). -/
inductive MulFlagProduct where
  | unsigned
  | signed
  deriving DecidableEq, Repr

/-- `SDIV_ROUNDING` (D15): how a signed quotient is rounded (R172). -/
inductive SdivRounding where
  | truncate
  | floor
  deriving DecidableEq, Repr

/-- `COND_LS_LE` (D11): how the two sub-conditions of LS and LE are joined (R320). -/
inductive CondLsLe where
  | or
  | and
  deriving DecidableEq, Repr

/-- `FETCH_COHERENCE` (D17): whether the program text can be stored to (R58). -/
inductive FetchCoherence where
  | immutable
  | coherent
  deriving DecidableEq, Repr

/-- The byte addresses `base`, `base + 1`, …, `base + size - 1` (assumption 27: no wrap). -/
structure Region where
  base : Nat
  size : Nat
  deriving DecidableEq, Repr

/-- The parameters of R6 and the launch's declarations of R405 and R406. -/
structure Config where
  /-- `BYTE_ORDER` (D1). -/
  byteOrder : ByteOrder
  /-- `MISALIGNED_DATA` (D2). -/
  misalignedData : MisalignedData
  /-- `MEM_MAP` (D5): the backed byte addresses. -/
  memMap : List Region
  /-- `RESET_PC` (D6): the value of `pc` when a run starts, where a launch has named one (R401). -/
  resetPc : Option Word
  /-- `SHIFT_OVER_31` (D12). -/
  shiftOver31 : ShiftOver31
  /-- `SHIFT_ZERO_CARRY` (D13). -/
  shiftZeroCarry : ShiftZeroCarry
  /-- `MUL_FLAG_PRODUCT` (D14). -/
  mulFlagProduct : MulFlagProduct
  /-- `SDIV_ROUNDING` (D15). -/
  sdivRounding : SdivRounding
  /-- `COND_LS_LE` (D11). -/
  condLsLe : CondLsLe
  /-- `FETCH_COHERENCE` (D17). -/
  fetchCoherence : FetchCoherence
  /-- The program text the host declares at launch (R58, R406). -/
  text : List Region
  /-- `END_PC` (D19), where the launch names one (R405). -/
  endPc : Option Word
  deriving DecidableEq, Repr

/-- Every parameter at the default the spec decides (R6). The launch values the spec leaves without a default,
`RESET_PC`, the text and `END_PC`, are not named here, as no launch has named them: DESIGN CHOICE, assumptions 3, 9
and 15. -/
def Config.default : Config where
  byteOrder := .little
  misalignedData := .allow
  memMap := [⟨0, 4294967296⟩]
  resetPc := none
  shiftOver31 := .iterate
  shiftZeroCarry := .zero
  mulFlagProduct := .unsigned
  sdivRounding := .truncate
  condLsLe := .or
  fetchCoherence := .immutable
  text := []
  endPc := none

end Sys2Proof
end

