-- ==== Sys2Proof/Machine/State.lean ====
section
/-!
DEFINITION. The state of the machine as plain data: the tuple of spec/10_state.md R34, and beside it the
configuration (assumption 5). The reasons a step can stop, and the machine right after reset.
-/

namespace Sys2Proof.Machine

/-- The status register: four flags of one bit each, written together or not at all (R24, R25). -/
structure Flags where
  /-- N, negative. -/
  n : Bool
  /-- Z, zero. -/
  z : Bool
  /-- C, carry. -/
  c : Bool
  /-- V, overflow. -/
  v : Bool
  deriving DecidableEq, Repr

/-- `M` (R29, R40): the bytes that differ from what an unlisted address reads as, at rising addresses. The
operations and the canonical form are in Machine/Memory.lean. -/
abbrev Memory := List Host.Cell

/-- The state of R34 with the configuration of R6 beside it. -/
structure State where
  /-- `x[0]` to `x[15]`: the general registers R0 to R15, none of them hard-wired (R20). -/
  x : Vector Word 16
  /-- N, Z, C and V (R24). -/
  flags : Flags
  /-- The program counter: between steps, the address of the next instruction (R27). -/
  pc : Word
  /-- `M` (R29). -/
  mem : Memory
  /-- The parameters of the run: the MODEL's field, no state of the hardware; no step changes it (assumption 5). -/
  cfg : Config
  deriving DecidableEq, Repr

/-- The model's faults: the closed list of spec/60_exceptions.md R372. A faulting step changes nothing; the fault
records the `pc` of the instruction and, for an access, the address of the access (assumption 17). Each errs toward
unprovable: SAFE. -/
inductive Fault where
  /-- Raised at decode: the word at `pc` has one of the 31 unassigned opcodes (R89). Safe. -/
  | illegalInstruction (pc : Word)
  /-- Raised at decode: the opcode is assigned and the word is no form of it (R87, R88, R90). Safe. -/
  | reservedEncoding (pc : Word)
  /-- Raised at fetch: `pc` is no multiple of 4 (R48). Safe. -/
  | misalignedFetch (pc : Word)
  /-- Raised by a fetch, a load or a store of bytes at `addr` of which one is outside `MEM_MAP` (R51), and by the
  first fetch of a launch whose `RESET_PC` is outside the program text (R401, assumption 18). Safe. -/
  | unmappedAccess (pc addr : Word)
  /-- Raised by a store to `addr` that touches the program text when the text is immutable (R58). Safe. -/
  | textWrite (pc addr : Word)
  /-- Raised by a load or store at `addr`, no multiple of its width, when `MISALIGNED_DATA = refuse` (R47). Safe. -/
  | misalignedData (pc addr : Word)
  deriving DecidableEq, Repr

/-- Why the model takes no step. -/
inductive Refusal where
  /-- Raised by the dispatch for an instruction that has no meaning yet; no arm raises it now. Safe. -/
  | notModelled (mnemonic : String)
  /-- Raised by the step of a final state: `pc = END_PC`, and the core takes no further step (R405, assumption 19).
  Safe. -/
  | runEnded
  deriving DecidableEq, Repr

/-- What a step or a meaning answers. -/
abbrev Result := Host.Outcome State Fault Refusal

/-- The machine right after reset. The spec gives NO reset value (R35, R400): every value here is the model's,
DESIGN CHOICE, assumptions 1 to 4, and UNSAFE. A launch (Machine/Launch.lean) fixes what a claim relies on. -/
def State.reset : State where
  x := Vector.replicate 16 0
  flags := ⟨false, false, false, false⟩
  pc := 0
  mem := []
  cfg := Config.default

end Sys2Proof.Machine
end

