-- ==== Sys2Proof/Machine/Flags.lean ====
section
/-!
DEFINITION. The flags: how N, Z, C and V come from what an operation computes (spec/10_state.md R24, R25), and the
fifteen conditions that read them (spec/45_control.md R320).
-/

namespace Sys2Proof.Machine

/-- What an operation of the arithmetic, shift or logic groups computes: the 32-bit value that the destination
receives, and the carry and overflow its rule gives. -/
structure AluOut where
  value : Word
  carry : Bool
  overflow : Bool
  deriving DecidableEq, Repr

/-- `n = r[31]`: N is bit 31 of the written value, in every opcode with an S bit (R111, R150). -/
def negativeFlag (r : Word) : Bool := r.getLsbD 31

/-- `z = (r == 0)`: Z tests the written 32-bit value, in every opcode with an S bit (R111, R150). -/
def zeroFlag (r : Word) : Bool := r == 0

/-- All four flags of an S form (R25). -/
def AluOut.flags (o : AluOut) : Flags :=
  ⟨negativeFlag o.value, zeroFlag o.value, o.carry, o.overflow⟩

/-- The conditions of a branch, by suffix (R320). -/
inductive Cond where
  | eq
  | ne
  | cs
  | cc
  | mi
  | pl
  | vs
  | vc
  | hi
  | ls
  | ge
  | lt
  | gt
  | le
  | al
  deriving DecidableEq, Repr

/-- How LS and LE join their two sub-conditions (R320, D11, assumption 14). -/
def joinCond (j : CondLsLe) (p q : Bool) : Bool :=
  match j with
  | .or => p || q
  | .and => p && q

/-- `eval(N, Z, C, V, cond)`: the last column of the table of R320. -/
def Cond.holds (j : CondLsLe) (f : Flags) : Cond → Bool
  | .eq => f.z
  | .ne => !f.z
  | .cs => f.c
  | .cc => !f.c
  | .mi => f.n
  | .pl => !f.n
  | .vs => f.v
  | .vc => !f.v
  | .hi => f.c && !f.z
  | .ls => joinCond j (!f.c) f.z
  | .ge => f.n == f.v
  | .lt => f.n != f.v
  | .gt => !f.z && (f.n == f.v)
  | .le => joinCond j f.z (f.n != f.v)
  | .al => true

end Sys2Proof.Machine
end

