-- ==== Sys2Proof/Machine/Alu.lean ====
section
/-!
DEFINITION. The operations of the arithmetic, multiply, divide, shift and logic groups, each as its rule of spec/
gives it: exact integers first, then the slice that is written, the carry and the overflow.
-/

namespace Sys2Proof.Machine

/-! ## Add and subtract (spec/40_arith_basic.md) -/

/-- `AddOp(a, b)` (R116): C is the carry out of bit 31. -/
def addOp (a b : Word) : AluOut :=
  let t := a.u + b.u
  let r := BitVec.ofNat 32 t
  ⟨r, t.testBit 32, (a.getLsbD 31 == b.getLsbD 31) && (a.getLsbD 31 != r.getLsbD 31)⟩

/-- `SubOp(a, b)` (R121): C is 1 exactly when there is no borrow. -/
def subOp (a b : Word) : AluOut :=
  let r := BitVec.ofInt 32 ((a.u : Int) - (b.u : Int))
  ⟨r, decide (b.u ≤ a.u), (a.getLsbD 31 != b.getLsbD 31) && (a.getLsbD 31 != r.getLsbD 31)⟩

/-! ## Multiply (spec/41_arith_muldiv.md) -/

/-- The unsigned 64-bit product `u(a) * u(b)` (R151, R161). -/
def unsignedProduct (a b : Word) : BitVec 64 := BitVec.ofNat 64 (a.u * b.u)

/-- The signed 64-bit product `(s(a) * s(b)) mod 2^64` (R151, R156, R167). -/
def signedProduct (a b : Word) : BitVec 64 := BitVec.ofInt 64 (a.s * b.s)

/-- The product whose upper half feeds C and V of MUL (R151, D14, assumption 12). -/
def mulProduct (m : MulFlagProduct) (a b : Word) : BitVec 64 :=
  match m with
  | .unsigned => unsignedProduct a b
  | .signed => signedProduct a b

/-- `MulOp(a, b)` (R151): the low word; C is bit 32 of the product, V says the high word is not zero. -/
def mulOp (m : MulFlagProduct) (a b : Word) : AluOut :=
  let p := mulProduct m a b
  ⟨p.extractLsb' 0 32, p.getLsbD 32, p.extractLsb' 32 32 != 0⟩

/-- `MulhOp(a, b)` (R156): the high word of the signed product. -/
def mulhOp (a b : Word) : AluOut :=
  ⟨(signedProduct a b).extractLsb' 32 32, false, false⟩

/-- `MulhuOp(a, b)` (R161): the high word of the unsigned product. -/
def mulhuOp (a b : Word) : AluOut :=
  ⟨(unsignedProduct a b).extractLsb' 32 32, false, false⟩

/-- `n{b}`: the bit b repeated n times (R7). -/
def repeatBit (n : Nat) (b : Bool) : BitVec n := if b then BitVec.allOnes n else 0

/-- `MulfxOp(a, b)` (R167): bits 47:16 of the signed product; C says the result is inexact, V that the product does
not fit in 16.16. -/
def mulfxOp (a b : Word) : AluOut :=
  let p := signedProduct a b
  ⟨p.extractLsb' 16 32, p.extractLsb' 0 16 != 0, p.extractLsb' 48 16 != repeatBit 16 (p.getLsbD 47)⟩

/-! ## Divide (spec/41_arith_muldiv.md) -/

/-- The signed quotient by a divisor that is not zero, rounded toward zero or toward minus infinity (R172 d, D15,
assumption 13). -/
def signedQuotient (r : SdivRounding) (a b : Int) : Int :=
  match r with
  | .truncate => a.tdiv b
  | .floor => a.fdiv b

/-- `DivOp(a, b)` (R172, R173). -/
def divOp (r : SdivRounding) (a b : Word) : AluOut :=
  ⟨if b = 0 then 0 else BitVec.ofInt 32 (signedQuotient r a.s b.s),
   b == 0,
   (a == 0x80000000) && (b == 0xFFFFFFFF)⟩

/-- `DivuOp(a, b)` (R172, R178). -/
def divuOp (a b : Word) : AluOut :=
  ⟨if b = 0 then 0 else BitVec.ofNat 32 (a.u / b.u), b == 0, false⟩

/-- `ModOp(a, b)` (R172, R183): the remainder that goes with the quotient of `signedQuotient`. -/
def modOp (r : SdivRounding) (a b : Word) : AluOut :=
  ⟨if b = 0 then 0 else BitVec.ofInt 32 (a.s - signedQuotient r a.s b.s * b.s), b == 0, false⟩

/-- `ModuOp(a, b)` (R172, R188). -/
def moduOp (a b : Word) : AluOut :=
  ⟨if b = 0 then 0 else BitVec.ofNat 32 (a.u % b.u), b == 0, false⟩

/-! ## Shift and rotate (spec/42_shift.md) -/

/-- The shift amount: the whole of b, or its low five bits under `low5` (R200, R202, D12, assumption 10). -/
def shiftAmount (cfg : Config) (b : Word) : Nat :=
  match cfg.shiftOver31 with
  | .iterate => b.u
  | .low5 => (b.extractLsb' 0 5).toNat

/-- C after a shift by 0: 0, or the C before the instruction (R201, D13, assumption 11). -/
def zeroShiftCarry (cfg : Config) (cin : Bool) : Bool :=
  match cfg.shiftZeroCarry with
  | .zero => false
  | .unchanged => cin

/-- `ShlOp(a, b, Cin)` (R201, R202, R203): C is the last bit to leave through bit 31. -/
def shlOp (cfg : Config) (a b : Word) (cin : Bool) : AluOut :=
  let n := shiftAmount cfg b
  if n = 0 then ⟨a, zeroShiftCarry cfg cin, false⟩
  else if n < 32 then ⟨a <<< n, a.getLsbD (32 - n), false⟩
  else ⟨0, decide (n = 32) && a.getLsbD 0, false⟩

/-- `AsrOp(a, b, Cin)` (R201, R202, R208): copies of bit 31 enter at the top; C is the last bit to leave through
bit 0. -/
def asrOp (cfg : Config) (a b : Word) (cin : Bool) : AluOut :=
  let n := shiftAmount cfg b
  if n = 0 then ⟨a, zeroShiftCarry cfg cin, false⟩
  else if n < 32 then ⟨a.sshiftRight n, a.getLsbD (n - 1), false⟩
  else ⟨repeatBit 32 (a.getLsbD 31), a.getLsbD 31, false⟩

/-- `LsrOp(a, b, Cin)` (R201, R202, R213): zeros enter at the top; C is the last bit to leave through bit 0. -/
def lsrOp (cfg : Config) (a b : Word) (cin : Bool) : AluOut :=
  let n := shiftAmount cfg b
  if n = 0 then ⟨a, zeroShiftCarry cfg cin, false⟩
  else if n < 32 then ⟨a >>> n, a.getLsbD (n - 1), false⟩
  else ⟨0, decide (n = 32) && a.getLsbD 31, false⟩

/-- A rotation left by m < 32 positions (R218). -/
def rotateLeftBy (a : Word) (m : Nat) : Word :=
  if m = 0 then a else (a <<< m) ||| (a >>> (32 - m))

/-- A rotation right by m < 32 positions (R223). -/
def rotateRightBy (a : Word) (m : Nat) : Word :=
  if m = 0 then a else (a >>> m) ||| (a <<< (32 - m))

/-- `RolOp(a, b, Cin)` (R201, R202, R218): C is the bit that arrived at bit 0. -/
def rolOp (cfg : Config) (a b : Word) (cin : Bool) : AluOut :=
  let n := shiftAmount cfg b
  let r := rotateLeftBy a (n % 32)
  ⟨r, if n = 0 then zeroShiftCarry cfg cin else r.getLsbD 0, false⟩

/-- `RorOp(a, b, Cin)` (R201, R202, R223): C is the bit that arrived at bit 31. -/
def rorOp (cfg : Config) (a b : Word) (cin : Bool) : AluOut :=
  let n := shiftAmount cfg b
  let r := rotateRightBy a (n % 32)
  ⟨r, if n = 0 then zeroShiftCarry cfg cin else r.getLsbD 31, false⟩

/-! ## Logic (spec/43_logic.md) -/

/-- `AndOp(a, b)` (R240, R241). -/
def andOp (a b : Word) : AluOut := ⟨a &&& b, false, false⟩

/-- `OrOp(a, b)` (R240, R246). -/
def orOp (a b : Word) : AluOut := ⟨a ||| b, false, false⟩

/-- `XorOp(a, b)` (R240, R251). -/
def xorOp (a b : Word) : AluOut := ⟨a ^^^ b, false, false⟩

/-- `NotOp(b)` (R240, R256). -/
def notOp (b : Word) : AluOut := ⟨~~~b, false, false⟩

end Sys2Proof.Machine
end

