-- ==== Sys2Proof/Machine/Bytes.lean ====
section
/-!
DEFINITION. Values as bytes: the decomposition of spec/20_memory.md R43 and R44 in either byte order, and the byte
addresses of an access. Used alike by data accesses, by the fetch and by the decoder's entry on table words.
-/

namespace Sys2Proof.Machine

/-- The `n` bytes of `v mod 2^(8n)`, least significant first: `v[7:0]`, `v[15:8]`, … -/
def bytesLE : Nat → Nat → List Byte
  | 0, _ => []
  | n + 1, v => BitVec.ofNat 8 v :: bytesLE n (v / 256)

/-- `b_0 + 2^8 * b_1 + …`: the value of bytes given least significant first. -/
def valueLE : List Byte → Nat
  | [] => 0
  | b :: bs => b.toNat + 256 * valueLE bs

/-- From least-significant-first to address order and back: the same list when little, reversed when big (R43, R44). -/
def orderBytes (order : ByteOrder) (bs : List Byte) : List Byte :=
  match order with
  | .little => bs
  | .big => bs.reverse

/-- The bytes of an `n`-byte value in address order, the first at the lowest address (R44). -/
def bytesOf (order : ByteOrder) (n v : Nat) : List Byte :=
  orderBytes order (bytesLE n v)

/-- The value of bytes given in address order (R43). -/
def valueOf (order : ByteOrder) (bs : List Byte) : Nat :=
  valueLE (orderBytes order bs)

/-- `a_i = (addr + i) mod 2^32` for i = 0 .. n-1 (R43, R49). -/
def byteAddrs (addr : Word) (n : Nat) : List Word :=
  (List.range n).map (fun i => addr + BitVec.ofNat 32 i)

end Sys2Proof.Machine
end

