-- ==== Sys2Proof/Machine/Memory.lean ====
section
/-!
DEFINITION. The byte map `M` of spec/20_memory.md: reading and writing one byte, and the canonical form, in which
equal memories are equal lists. Regions of addresses.
-/

namespace Sys2Proof.Machine

/-- What an unlisted address reads as. The spec leaves memory unspecified at reset (R35): DESIGN CHOICE 0, unsafe
(assumption 4). -/
def Memory.blank : Byte := 0

/-- The byte at an address. -/
def Memory.read : Memory → Nat → Byte
  | [], _ => Memory.blank
  | cell :: m, a => if cell.1 = a then cell.2 else Memory.read m a

/-- Without any entry at an address. -/
def Memory.erase : Memory → Nat → Memory
  | [], _ => []
  | cell :: m, a => if cell.1 = a then Memory.erase m a else cell :: Memory.erase m a

/-- With an entry put before the first higher address. -/
def Memory.insert : Memory → Nat → Byte → Memory
  | [], a, b => [(a, b)]
  | cell :: m, a, b => if a < cell.1 then (a, b) :: cell :: m else cell :: Memory.insert m a b

/-- The memory after a byte is written. Writing what an unlisted address reads as removes the entry. -/
def Memory.write (m : Memory) (a : Nat) (b : Byte) : Memory :=
  if b = Memory.blank then m.erase a else (m.erase a).insert a b

/-- The canonical form: addresses strictly rising and below 2^32, no entry equal to what an unlisted address
reads as. -/
def Memory.wf : Memory → Bool
  | [] => true
  | cell :: m =>
    decide (cell.1 < 2 ^ 32) && decide (cell.2 ≠ Memory.blank) && m.all (fun c => decide (cell.1 < c.1)) &&
      Memory.wf m

/-- The bytes `cells` written one after the other. -/
def Memory.writeAll (m : Memory) : List Host.Cell → Memory
  | [] => m
  | cell :: cells => Memory.writeAll (m.write cell.1 cell.2) cells

/-- Whether an address lies in a region. -/
def regionHas (r : Region) (a : Nat) : Bool := decide (r.base ≤ a) && decide (a < r.base + r.size)

/-- Whether an address lies in one of several regions. -/
def regionsHave (rs : List Region) (a : Nat) : Bool := rs.any (fun r => regionHas r a)

end Sys2Proof.Machine
end

