-- ==== Sys2Proof/Machine/Ops.lean ====
section
/-!
DEFINITION. The named operations over registers, flags, pc and memory from which every meaning is made: the
destination write and the flag write of spec/40_arith_basic.md R110 and R111, MemRead and MemWrite of
spec/20_memory.md R43 and R44 with their checks, the fetch of R46, and the forms of a load, a store, a branch and a
jump. GISA has no exception to take and none to return from (spec/60_exceptions.md R370, R376, R377): a step that
has no next state is one of the faults of R372.
-/

namespace Sys2Proof.Machine

/-! ## Registers, flags and pc -/

/-- `x[i]` (R8). -/
def State.reg (s : State) (r : Reg) : Word := s.x[r.toNat]'(r.isLt)

/-- `x[i] <- v` (R8). No register is hard-wired (R20). -/
def State.setReg (s : State) (r : Reg) (v : Word) : State := { s with x := s.x.set r.toNat v r.isLt }

/-- `NZCV <- f` (R8). -/
def State.setFlags (s : State) (f : Flags) : State := { s with flags := f }

/-- `pc <- v`. -/
def State.setPc (s : State) (v : Word) : State := { s with pc := v }

/-- `M <- m`. -/
def State.setMem (s : State) (m : Memory) : State := { s with mem := m }

/-- The address of the next instruction in memory, modulo 2^32 (R28, D4). -/
def State.nextPc (s : State) : Word := s.pc + 4

/-- `pc <- pc + 4`, the sequential step (R28). -/
def State.advance (s : State) : State := s.setPc s.nextPc

/-- A value goes to rD and the pc advances: MOV, MOVH and every S = 0 form with a destination (R110). -/
def writeReg (rd : Reg) (v : Word) (s : State) : Result :=
  .next (s.setReg rd v).advance

/-- The same with all four flags written: every S = 1 form with a destination (R111). -/
def writeRegFlags (rd : Reg) (o : AluOut) (s : State) : Result :=
  .next ((s.setReg rd o.value).setFlags o.flags).advance

/-- The value is discarded and the flags are written: CMPS, CMPIS, BCHKS, BCHKIS (R129, R261). -/
def writeFlagsOnly (o : AluOut) (s : State) : Result :=
  .next (s.setFlags o.flags).advance

/-- Value and flags are discarded: CMP, CMPI, BCHK, BCHKI, which act as a NOP (R129, R261). -/
def discard (_ : AluOut) (s : State) : Result :=
  .next s.advance

/-! ## Memory -/

/-- The width of an access (R42). -/
inductive Width where
  | byte
  | half
  | word
  deriving DecidableEq, Repr

/-- `n`, the number of bytes (R42). -/
def Width.bytes : Width → Nat
  | .byte => 1
  | .half => 2
  | .word => 4

/-- Whether an address is in `MEM_MAP` (R51). -/
def State.mapped (s : State) (a : Word) : Bool := regionsHave s.cfg.memMap a.toNat

/-- Whether an address is in the program text (R58). -/
def State.inText (s : State) (a : Word) : Bool := regionsHave s.cfg.text a.toNat

/-- Whether a store to an address is a fault: it is text and the text is immutable (R58). -/
def State.textProtected (s : State) (a : Word) : Bool :=
  match s.cfg.fetchCoherence with
  | .immutable => s.inText a
  | .coherent => false

/-- `M[a]`. -/
def State.byteAt (s : State) (a : Word) : Byte := s.mem.read a.toNat

/-- Whether every byte of an access is in `MEM_MAP` (R43, R44). -/
def State.allMapped (s : State) (addr : Word) (n : Nat) : Bool := (byteAddrs addr n).all s.mapped

/-- Whether an access of this width at this address is refused as misaligned (R47, D2, assumption 7). -/
def State.misaligned (s : State) (addr : Word) (w : Width) : Bool :=
  match s.cfg.misalignedData with
  | .allow => false
  | .refuse => decide (addr.toNat % w.bytes ≠ 0)

/-- The fault of a read, if any, in the order of R375. -/
def State.readFault (s : State) (addr : Word) (w : Width) : Option Fault :=
  if s.misaligned addr w then some (.misalignedData s.pc addr)
  else if !s.allMapped addr w.bytes then some (.unmappedAccess s.pc addr)
  else none

/-- The fault of a write, if any, in the order of R375. -/
def State.writeFault (s : State) (addr : Word) (w : Width) : Option Fault :=
  match s.readFault addr w with
  | some f => some f
  | none => if (byteAddrs addr w.bytes).any s.textProtected then some (.textWrite s.pc addr) else none

/-- The value of the `n` bytes at an address, in the byte order of the configuration (R43). -/
def State.readValue (s : State) (addr : Word) (n : Nat) : Nat :=
  valueOf s.cfg.byteOrder ((byteAddrs addr n).map s.byteAt)

/-- The memory with the low `8n` bits of `v` stored at an address, in the byte order of the configuration, without
any check (R44). -/
def State.pokeValue (s : State) (addr : Word) (n v : Nat) : State :=
  s.setMem (s.mem.writeAll (((byteAddrs addr n).map (·.toNat)).zip (bytesOf s.cfg.byteOrder n v)))

/-- `MemRead(addr, n)` (R43). -/
def State.memRead (s : State) (addr : Word) (w : Width) : Except Fault Nat :=
  match s.readFault addr w with
  | some f => .error f
  | none => .ok (s.readValue addr w.bytes)

/-- `MemWrite(addr, n, v)` (R44): all bytes or none. -/
def State.memWrite (s : State) (addr : Word) (w : Width) (v : Nat) : Except Fault State :=
  match s.writeFault addr w with
  | some f => .error f
  | none => .ok (s.pokeValue addr w.bytes v)

/-- Whether the pc stands at a `RESET_PC` that is outside the program text, so that the first step of the launch is a
fault (R401). The text and `RESET_PC` are fixed for a run, so no later step of a run that got past its first meets
this; the check needs no mark of which step is the first. DEDUCED, assumption 18. -/
def State.startsOutsideText (s : State) : Bool := decide (s.cfg.resetPc = some s.pc) && !s.inText s.pc

/-- The instruction fetch (R46, R48, R401): the faults in the order of R375. `MISALIGNED_DATA` does not apply to
it. -/
def State.fetch (s : State) : Except Fault Word :=
  if s.pc.toNat % 4 ≠ 0 then .error (.misalignedFetch s.pc)
  else if !s.allMapped s.pc 4 || s.startsOutsideText then .error (.unmappedAccess s.pc s.pc)
  else .ok (BitVec.ofNat 32 (s.readValue s.pc 4))

/-! ## Loads and stores (spec/44_load_store.md R281, R282) -/

/-- How a load widens the value it read (R60, R281). -/
inductive Extend where
  | zero
  | sign
  deriving DecidableEq, Repr

/-- The 32-bit value of a loaded one of `8n` bits (R60). -/
def Extend.widen (e : Extend) (w : Width) (v : Nat) : Word :=
  match e with
  | .zero => BitVec.ofNat 32 v
  | .sign => (BitVec.ofNat (8 * w.bytes) v).signExtend 32

/-- A load (R281): MemRead at `ea`, widened into rD; the pc advances. -/
def load (w : Width) (e : Extend) (rd : Reg) (ea : Word) (s : State) : Result :=
  match s.memRead ea w with
  | .error f => .fault f
  | .ok v => .next (s.setReg rd (e.widen w v)).advance

/-- A store (R282): MemWrite of the low bytes of x[rB] at `ea`; the pc advances. -/
def store (w : Width) (rb : Reg) (ea : Word) (s : State) : Result :=
  match s.memWrite ea w (s.reg rb).u with
  | .error f => .fault f
  | .ok s' => .next s'.advance

/-! ## Branches and jumps (spec/45_control.md R321, R322) -/

/-- A branch (R321): to `target` if the condition holds, else to the next instruction. -/
def branch (c : Cond) (target : Word) (s : State) : Result :=
  .next (s.setPc (if c.holds s.cfg.condLsLe s.flags then target else s.nextPc))

/-- A jump without link (R322). -/
def jump (target : Word) (s : State) : Result :=
  .next (s.setPc target)

/-- A jump with link (R322): rD receives the address of the next instruction. -/
def jumpLink (rd : Reg) (target : Word) (s : State) : Result :=
  .next ((s.setReg rd s.nextPc).setPc target)

/-! ## The end of a run (spec/70_reset_and_hazards.md R405) -/

/-- Whether the state is final: the launch names an `END_PC` and `pc` equals it. -/
def State.atEnd (s : State) : Bool :=
  match s.cfg.endPc with
  | none => false
  | some a => a == s.pc

end Sys2Proof.Machine
end

