-- ==== Sys2Proof/Machine/Operands.lean ====
section
/-!
DEFINITION. The operand forms: the extensions of an immediate (spec/00_scope.md R9, spec/30_encoding.md R83, R85),
the operands A and B of the arithmetic, shift and logic groups (spec/40_arith_basic.md R110), the three addressing
modes of a load or store (spec/44_load_store.md R280) and the targets of branches and jumps (spec/45_control.md).
-/

namespace Sys2Proof.Machine

/-- `sext_N(v)` (R9). -/
def sext {n : Nat} (v : BitVec n) : Word := v.signExtend 32

/-- `zext_N(v)` (R9). -/
def zext {n : Nat} (v : BitVec n) : Word := v.setWidth 32

/-- `fx_16(v)`: an 8.8 immediate as a 16.16 operand (R9, R85, R166). -/
def fx16 (v : BitVec 16) : Word := sext v <<< 8

/-- `imm16 << 16`, the value of MOVH (R127). -/
def high16 (v : BitVec 16) : Word := zext v <<< 16

/-- `imm20 << 12`, the value of MOVHL (R128). -/
def high20 (v : BitVec 20) : Word := zext v <<< 12

/-- Displacement mode: `(x[rA] + sext_16(imm16)) mod 2^32` (R280, R50). -/
def displacementAddr (ra : Reg) (imm : BitVec 16) (s : State) : Word := s.reg ra + sext imm

/-- Immediate mode: `zext_20(imm20)` (R280). -/
def absoluteAddr (imm : BitVec 20) : Word := zext imm

/-- Pc-relative mode: `(pc + sext_20(imm20)) mod 2^32`, pc being the address of the load or store (R280). -/
def pcRelativeAddr (imm : BitVec 20) (s : State) : Word := s.pc + sext imm

/-- The target of a taken branch: `(pc + sext_22(imm22)) mod 2^32` (R321). -/
def branchTarget (imm : BitVec 22) (s : State) : Word := s.pc + sext imm

/-- The target of JMP and JMPL: `(x[rA] + zext_16(imm16)) mod 2^32` (R323, R325). -/
def registerTarget (ra : Reg) (imm : BitVec 16) (s : State) : Word := s.reg ra + zext imm

end Sys2Proof.Machine
end

