-- ==== Sys2Proof/Machine/Arith.lean ====
section
/-!
DEFINITION. The meanings of MOV, MOVH, ADD, SUB and CMP (spec/40_arith_basic.md), one definition per instruction.
-/

namespace Sys2Proof.Machine

/-- `MOV rD, rB` (R113). -/
def execMov (rd rb : Reg) (s : State) : Result :=
  writeReg rd (s.reg rb) s

/-- `MOVI rD, #imm` (R114). -/
def execMovi (rd : Reg) (imm : BitVec 20) (s : State) : Result :=
  writeReg rd (sext imm) s

/-- `MOVIZ rD, #imm` (R115). -/
def execMoviz (rd : Reg) (imm : BitVec 20) (s : State) : Result :=
  writeReg rd (zext imm) s

/-- `ADD rD, rA, rB` (R117). -/
def execAdd (rd ra rb : Reg) (s : State) : Result :=
  writeReg rd (addOp (s.reg ra) (s.reg rb)).value s

/-- `ADDS rD, rA, rB` (R119). -/
def execAdds (rd ra rb : Reg) (s : State) : Result :=
  writeRegFlags rd (addOp (s.reg ra) (s.reg rb)) s

/-- `ADDI rD, rA, #imm` (R118). -/
def execAddi (rd ra : Reg) (imm : BitVec 16) (s : State) : Result :=
  writeReg rd (addOp (s.reg ra) (sext imm)).value s

/-- `ADDIS rD, rA, #imm` (R120). -/
def execAddis (rd ra : Reg) (imm : BitVec 16) (s : State) : Result :=
  writeRegFlags rd (addOp (s.reg ra) (sext imm)) s

/-- `SUB rD, rA, rB` (R122). -/
def execSub (rd ra rb : Reg) (s : State) : Result :=
  writeReg rd (subOp (s.reg ra) (s.reg rb)).value s

/-- `SUBS rD, rA, rB` (R124). -/
def execSubs (rd ra rb : Reg) (s : State) : Result :=
  writeRegFlags rd (subOp (s.reg ra) (s.reg rb)) s

/-- `SUBI rD, rA, #imm` (R123). -/
def execSubi (rd ra : Reg) (imm : BitVec 16) (s : State) : Result :=
  writeReg rd (subOp (s.reg ra) (sext imm)).value s

/-- `SUBIS rD, rA, #imm` (R125). -/
def execSubis (rd ra : Reg) (imm : BitVec 16) (s : State) : Result :=
  writeRegFlags rd (subOp (s.reg ra) (sext imm)) s

/-- `MOVH rD, #imm` (R127). -/
def execMovh (rd : Reg) (imm : BitVec 16) (s : State) : Result :=
  writeReg rd (high16 imm) s

/-- `MOVHL rD, #imm` (R128). -/
def execMovhl (rd : Reg) (imm : BitVec 20) (s : State) : Result :=
  writeReg rd (high20 imm) s

/-- `CMP rA, rB` (R130). -/
def execCmp (ra rb : Reg) (s : State) : Result :=
  discard (subOp (s.reg ra) (s.reg rb)) s

/-- `CMPS rA, rB` (R132). -/
def execCmps (ra rb : Reg) (s : State) : Result :=
  writeFlagsOnly (subOp (s.reg ra) (s.reg rb)) s

/-- `CMPI rA, #imm` (R131). -/
def execCmpi (ra : Reg) (imm : BitVec 16) (s : State) : Result :=
  discard (subOp (s.reg ra) (sext imm)) s

/-- `CMPIS rA, #imm` (R133). -/
def execCmpis (ra : Reg) (imm : BitVec 16) (s : State) : Result :=
  writeFlagsOnly (subOp (s.reg ra) (sext imm)) s

end Sys2Proof.Machine
end

