-- ==== Sys2Proof/Machine/Control.lean ====
section
/-!
DEFINITION. The meanings of the branches and the jumps (spec/45_control.md), one definition per instruction.
-/

namespace Sys2Proof.Machine

/-- `BEQ #imm` (R330). -/
def execBeq (imm : BitVec 22) (s : State) : Result :=
  branch .eq (branchTarget imm s) s

/-- `BNE #imm` (R331). -/
def execBne (imm : BitVec 22) (s : State) : Result :=
  branch .ne (branchTarget imm s) s

/-- `BCS #imm` (R332). -/
def execBcs (imm : BitVec 22) (s : State) : Result :=
  branch .cs (branchTarget imm s) s

/-- `BCC #imm` (R333). -/
def execBcc (imm : BitVec 22) (s : State) : Result :=
  branch .cc (branchTarget imm s) s

/-- `BMI #imm` (R334). -/
def execBmi (imm : BitVec 22) (s : State) : Result :=
  branch .mi (branchTarget imm s) s

/-- `BPL #imm` (R335). -/
def execBpl (imm : BitVec 22) (s : State) : Result :=
  branch .pl (branchTarget imm s) s

/-- `BVS #imm` (R336). -/
def execBvs (imm : BitVec 22) (s : State) : Result :=
  branch .vs (branchTarget imm s) s

/-- `BVC #imm` (R337). -/
def execBvc (imm : BitVec 22) (s : State) : Result :=
  branch .vc (branchTarget imm s) s

/-- `BHI #imm` (R338). -/
def execBhi (imm : BitVec 22) (s : State) : Result :=
  branch .hi (branchTarget imm s) s

/-- `BLS #imm` (R339). -/
def execBls (imm : BitVec 22) (s : State) : Result :=
  branch .ls (branchTarget imm s) s

/-- `BGE #imm` (R340). -/
def execBge (imm : BitVec 22) (s : State) : Result :=
  branch .ge (branchTarget imm s) s

/-- `BLT #imm` (R341). -/
def execBlt (imm : BitVec 22) (s : State) : Result :=
  branch .lt (branchTarget imm s) s

/-- `BGT #imm` (R342). -/
def execBgt (imm : BitVec 22) (s : State) : Result :=
  branch .gt (branchTarget imm s) s

/-- `BLE #imm` (R343). -/
def execBle (imm : BitVec 22) (s : State) : Result :=
  branch .le (branchTarget imm s) s

/-- `BAL #imm` (R344). -/
def execBal (imm : BitVec 22) (s : State) : Result :=
  branch .al (branchTarget imm s) s

/-- `JMP rA, #imm` (R323). -/
def execJmp (ra : Reg) (imm : BitVec 16) (s : State) : Result :=
  jump (registerTarget ra imm s) s

/-- `JMPI #imm` (R324). -/
def execJmpi (imm : BitVec 24) (s : State) : Result :=
  jump (zext imm) s

/-- `JMPL rD, rA, #imm` (R325). -/
def execJmpl (rd ra : Reg) (imm : BitVec 16) (s : State) : Result :=
  jumpLink rd (registerTarget ra imm s) s

/-- `JMPIL rD, #imm` (R326). -/
def execJmpil (rd : Reg) (imm : BitVec 20) (s : State) : Result :=
  jumpLink rd (zext imm) s

end Sys2Proof.Machine
end

