-- ==== Sys2Proof/Machine/LoadStore.lean ====
section
/-!
DEFINITION. The meanings of the loads and the stores (spec/44_load_store.md), one definition per instruction.
-/

namespace Sys2Proof.Machine

/-- `LDR rD, rA, #imm` (R283). -/
def execLdr (rd ra : Reg) (imm : BitVec 16) (s : State) : Result :=
  load .word .zero rd (displacementAddr ra imm s) s

/-- `LDRI rD, #imm` (R284). -/
def execLdri (rd : Reg) (imm : BitVec 20) (s : State) : Result :=
  load .word .zero rd (absoluteAddr imm) s

/-- `LDRR rD, #imm` (R285). -/
def execLdrr (rd : Reg) (imm : BitVec 20) (s : State) : Result :=
  load .word .zero rd (pcRelativeAddr imm s) s

/-- `LDRB rD, rA, #imm` (R286). -/
def execLdrb (rd ra : Reg) (imm : BitVec 16) (s : State) : Result :=
  load .byte .zero rd (displacementAddr ra imm s) s

/-- `LDRBI rD, #imm` (R287). -/
def execLdrbi (rd : Reg) (imm : BitVec 20) (s : State) : Result :=
  load .byte .zero rd (absoluteAddr imm) s

/-- `LDRBR rD, #imm` (R288). -/
def execLdrbr (rd : Reg) (imm : BitVec 20) (s : State) : Result :=
  load .byte .zero rd (pcRelativeAddr imm s) s

/-- `LDRSB rD, rA, #imm` (R289). -/
def execLdrsb (rd ra : Reg) (imm : BitVec 16) (s : State) : Result :=
  load .byte .sign rd (displacementAddr ra imm s) s

/-- `LDRSBI rD, #imm` (R290). -/
def execLdrsbi (rd : Reg) (imm : BitVec 20) (s : State) : Result :=
  load .byte .sign rd (absoluteAddr imm) s

/-- `LDRSBR rD, #imm` (R291). -/
def execLdrsbr (rd : Reg) (imm : BitVec 20) (s : State) : Result :=
  load .byte .sign rd (pcRelativeAddr imm s) s

/-- `LDRH rD, rA, #imm` (R292). -/
def execLdrh (rd ra : Reg) (imm : BitVec 16) (s : State) : Result :=
  load .half .zero rd (displacementAddr ra imm s) s

/-- `LDRHI rD, #imm` (R293). -/
def execLdrhi (rd : Reg) (imm : BitVec 20) (s : State) : Result :=
  load .half .zero rd (absoluteAddr imm) s

/-- `LDRHR rD, #imm` (R294). -/
def execLdrhr (rd : Reg) (imm : BitVec 20) (s : State) : Result :=
  load .half .zero rd (pcRelativeAddr imm s) s

/-- `LDRSH rD, rA, #imm` (R295). -/
def execLdrsh (rd ra : Reg) (imm : BitVec 16) (s : State) : Result :=
  load .half .sign rd (displacementAddr ra imm s) s

/-- `LDRSHI rD, #imm` (R296). -/
def execLdrshi (rd : Reg) (imm : BitVec 20) (s : State) : Result :=
  load .half .sign rd (absoluteAddr imm) s

/-- `LDRSHR rD, #imm` (R297). -/
def execLdrshr (rd : Reg) (imm : BitVec 20) (s : State) : Result :=
  load .half .sign rd (pcRelativeAddr imm s) s

/-- `STR rB, rA, #imm` (R298). -/
def execStr (rb ra : Reg) (imm : BitVec 16) (s : State) : Result :=
  store .word rb (displacementAddr ra imm s) s

/-- `STRI rB, #imm` (R299). -/
def execStri (rb : Reg) (imm : BitVec 20) (s : State) : Result :=
  store .word rb (absoluteAddr imm) s

/-- `STRR rB, #imm` (R300). -/
def execStrr (rb : Reg) (imm : BitVec 20) (s : State) : Result :=
  store .word rb (pcRelativeAddr imm s) s

/-- `STRB rB, rA, #imm` (R301). -/
def execStrb (rb ra : Reg) (imm : BitVec 16) (s : State) : Result :=
  store .byte rb (displacementAddr ra imm s) s

/-- `STRBI rB, #imm` (R302). -/
def execStrbi (rb : Reg) (imm : BitVec 20) (s : State) : Result :=
  store .byte rb (absoluteAddr imm) s

/-- `STRBR rB, #imm` (R303). -/
def execStrbr (rb : Reg) (imm : BitVec 20) (s : State) : Result :=
  store .byte rb (pcRelativeAddr imm s) s

/-- `STRH rB, rA, #imm` (R304). -/
def execStrh (rb ra : Reg) (imm : BitVec 16) (s : State) : Result :=
  store .half rb (displacementAddr ra imm s) s

/-- `STRHI rB, #imm` (R305). -/
def execStrhi (rb : Reg) (imm : BitVec 20) (s : State) : Result :=
  store .half rb (absoluteAddr imm) s

/-- `STRHR rB, #imm` (R306). -/
def execStrhr (rb : Reg) (imm : BitVec 20) (s : State) : Result :=
  store .half rb (pcRelativeAddr imm s) s

end Sys2Proof.Machine
end

