-- ==== Sys2Proof/Machine/Logic.lean ====
section
/-!
DEFINITION. The meanings of AND, OR, XOR, NOT and BCHK (spec/43_logic.md), one definition per instruction.
-/

namespace Sys2Proof.Machine

/-- `AND rD, rA, rB` (R242). -/
def execAnd (rd ra rb : Reg) (s : State) : Result :=
  writeReg rd (andOp (s.reg ra) (s.reg rb)).value s

/-- `ANDS rD, rA, rB` (R244). -/
def execAnds (rd ra rb : Reg) (s : State) : Result :=
  writeRegFlags rd (andOp (s.reg ra) (s.reg rb)) s

/-- `ANDI rD, rA, #imm` (R243). -/
def execAndi (rd ra : Reg) (imm : BitVec 16) (s : State) : Result :=
  writeReg rd (andOp (s.reg ra) (zext imm)).value s

/-- `ANDIS rD, rA, #imm` (R245). -/
def execAndis (rd ra : Reg) (imm : BitVec 16) (s : State) : Result :=
  writeRegFlags rd (andOp (s.reg ra) (zext imm)) s

/-- `OR rD, rA, rB` (R247). -/
def execOr (rd ra rb : Reg) (s : State) : Result :=
  writeReg rd (orOp (s.reg ra) (s.reg rb)).value s

/-- `ORS rD, rA, rB` (R249). -/
def execOrs (rd ra rb : Reg) (s : State) : Result :=
  writeRegFlags rd (orOp (s.reg ra) (s.reg rb)) s

/-- `ORI rD, rA, #imm` (R248). -/
def execOri (rd ra : Reg) (imm : BitVec 16) (s : State) : Result :=
  writeReg rd (orOp (s.reg ra) (zext imm)).value s

/-- `ORIS rD, rA, #imm` (R250). -/
def execOris (rd ra : Reg) (imm : BitVec 16) (s : State) : Result :=
  writeRegFlags rd (orOp (s.reg ra) (zext imm)) s

/-- `XOR rD, rA, rB` (R252). -/
def execXor (rd ra rb : Reg) (s : State) : Result :=
  writeReg rd (xorOp (s.reg ra) (s.reg rb)).value s

/-- `XORS rD, rA, rB` (R254). -/
def execXors (rd ra rb : Reg) (s : State) : Result :=
  writeRegFlags rd (xorOp (s.reg ra) (s.reg rb)) s

/-- `XORI rD, rA, #imm` (R253). -/
def execXori (rd ra : Reg) (imm : BitVec 16) (s : State) : Result :=
  writeReg rd (xorOp (s.reg ra) (zext imm)).value s

/-- `XORIS rD, rA, #imm` (R255). -/
def execXoris (rd ra : Reg) (imm : BitVec 16) (s : State) : Result :=
  writeRegFlags rd (xorOp (s.reg ra) (zext imm)) s

/-- `BCHK rA, rB` (R262). -/
def execBchk (ra rb : Reg) (s : State) : Result :=
  discard (andOp (s.reg ra) (s.reg rb)) s

/-- `BCHKS rA, rB` (R264). -/
def execBchks (ra rb : Reg) (s : State) : Result :=
  writeFlagsOnly (andOp (s.reg ra) (s.reg rb)) s

/-- `BCHKI rA, #imm` (R263). -/
def execBchki (ra : Reg) (imm : BitVec 16) (s : State) : Result :=
  discard (andOp (s.reg ra) (zext imm)) s

/-- `BCHKIS rA, #imm` (R265). -/
def execBchkis (ra : Reg) (imm : BitVec 16) (s : State) : Result :=
  writeFlagsOnly (andOp (s.reg ra) (zext imm)) s

/-- `NOT rD, rB` (R257). -/
def execNot (rd rb : Reg) (s : State) : Result :=
  writeReg rd (notOp (s.reg rb)).value s

/-- `NOTS rD, rB` (R259). -/
def execNots (rd rb : Reg) (s : State) : Result :=
  writeRegFlags rd (notOp (s.reg rb)) s

/-- `NOTI rD, #imm` (R258). -/
def execNoti (rd : Reg) (imm : BitVec 20) (s : State) : Result :=
  writeReg rd (notOp (zext imm)).value s

/-- `NOTIS rD, #imm` (R260). -/
def execNotis (rd : Reg) (imm : BitVec 20) (s : State) : Result :=
  writeRegFlags rd (notOp (zext imm)) s

end Sys2Proof.Machine
end

