-- ==== Sys2Proof/Machine/MulDiv.lean ====
section
/-!
DEFINITION. The meanings of MUL, MULH, MULHU, MULFX, DIV, DIVU, MOD and MODU (spec/41_arith_muldiv.md), one definition per instruction.
-/

namespace Sys2Proof.Machine

/-- `MUL rD, rA, rB` (R152). -/
def execMul (rd ra rb : Reg) (s : State) : Result :=
  writeReg rd (mulOp s.cfg.mulFlagProduct (s.reg ra) (s.reg rb)).value s

/-- `MULS rD, rA, rB` (R154). -/
def execMuls (rd ra rb : Reg) (s : State) : Result :=
  writeRegFlags rd (mulOp s.cfg.mulFlagProduct (s.reg ra) (s.reg rb)) s

/-- `MULI rD, rA, #imm` (R153). -/
def execMuli (rd ra : Reg) (imm : BitVec 16) (s : State) : Result :=
  writeReg rd (mulOp s.cfg.mulFlagProduct (s.reg ra) (sext imm)).value s

/-- `MULIS rD, rA, #imm` (R155). -/
def execMulis (rd ra : Reg) (imm : BitVec 16) (s : State) : Result :=
  writeRegFlags rd (mulOp s.cfg.mulFlagProduct (s.reg ra) (sext imm)) s

/-- `MULH rD, rA, rB` (R157). -/
def execMulh (rd ra rb : Reg) (s : State) : Result :=
  writeReg rd (mulhOp (s.reg ra) (s.reg rb)).value s

/-- `MULHS rD, rA, rB` (R159). -/
def execMulhs (rd ra rb : Reg) (s : State) : Result :=
  writeRegFlags rd (mulhOp (s.reg ra) (s.reg rb)) s

/-- `MULHI rD, rA, #imm` (R158). -/
def execMulhi (rd ra : Reg) (imm : BitVec 16) (s : State) : Result :=
  writeReg rd (mulhOp (s.reg ra) (sext imm)).value s

/-- `MULHIS rD, rA, #imm` (R160). -/
def execMulhis (rd ra : Reg) (imm : BitVec 16) (s : State) : Result :=
  writeRegFlags rd (mulhOp (s.reg ra) (sext imm)) s

/-- `MULHU rD, rA, rB` (R162). -/
def execMulhu (rd ra rb : Reg) (s : State) : Result :=
  writeReg rd (mulhuOp (s.reg ra) (s.reg rb)).value s

/-- `MULHUS rD, rA, rB` (R164). -/
def execMulhus (rd ra rb : Reg) (s : State) : Result :=
  writeRegFlags rd (mulhuOp (s.reg ra) (s.reg rb)) s

/-- `MULHUI rD, rA, #imm` (R163). -/
def execMulhui (rd ra : Reg) (imm : BitVec 16) (s : State) : Result :=
  writeReg rd (mulhuOp (s.reg ra) (zext imm)).value s

/-- `MULHUIS rD, rA, #imm` (R165). -/
def execMulhuis (rd ra : Reg) (imm : BitVec 16) (s : State) : Result :=
  writeRegFlags rd (mulhuOp (s.reg ra) (zext imm)) s

/-- `MULFX rD, rA, rB` (R168). -/
def execMulfx (rd ra rb : Reg) (s : State) : Result :=
  writeReg rd (mulfxOp (s.reg ra) (s.reg rb)).value s

/-- `MULFXS rD, rA, rB` (R170). -/
def execMulfxs (rd ra rb : Reg) (s : State) : Result :=
  writeRegFlags rd (mulfxOp (s.reg ra) (s.reg rb)) s

/-- `MULFXI rD, rA, #imm` (R169). -/
def execMulfxi (rd ra : Reg) (imm : BitVec 16) (s : State) : Result :=
  writeReg rd (mulfxOp (s.reg ra) (fx16 imm)).value s

/-- `MULFXIS rD, rA, #imm` (R171). -/
def execMulfxis (rd ra : Reg) (imm : BitVec 16) (s : State) : Result :=
  writeRegFlags rd (mulfxOp (s.reg ra) (fx16 imm)) s

/-- `DIV rD, rA, rB` (R174). -/
def execDiv (rd ra rb : Reg) (s : State) : Result :=
  writeReg rd (divOp s.cfg.sdivRounding (s.reg ra) (s.reg rb)).value s

/-- `DIVS rD, rA, rB` (R176). -/
def execDivs (rd ra rb : Reg) (s : State) : Result :=
  writeRegFlags rd (divOp s.cfg.sdivRounding (s.reg ra) (s.reg rb)) s

/-- `DIVI rD, rA, #imm` (R175). -/
def execDivi (rd ra : Reg) (imm : BitVec 16) (s : State) : Result :=
  writeReg rd (divOp s.cfg.sdivRounding (s.reg ra) (sext imm)).value s

/-- `DIVIS rD, rA, #imm` (R177). -/
def execDivis (rd ra : Reg) (imm : BitVec 16) (s : State) : Result :=
  writeRegFlags rd (divOp s.cfg.sdivRounding (s.reg ra) (sext imm)) s

/-- `DIVU rD, rA, rB` (R179). -/
def execDivu (rd ra rb : Reg) (s : State) : Result :=
  writeReg rd (divuOp (s.reg ra) (s.reg rb)).value s

/-- `DIVUS rD, rA, rB` (R181). -/
def execDivus (rd ra rb : Reg) (s : State) : Result :=
  writeRegFlags rd (divuOp (s.reg ra) (s.reg rb)) s

/-- `DIVUI rD, rA, #imm` (R180). -/
def execDivui (rd ra : Reg) (imm : BitVec 16) (s : State) : Result :=
  writeReg rd (divuOp (s.reg ra) (zext imm)).value s

/-- `DIVUIS rD, rA, #imm` (R182). -/
def execDivuis (rd ra : Reg) (imm : BitVec 16) (s : State) : Result :=
  writeRegFlags rd (divuOp (s.reg ra) (zext imm)) s

/-- `MOD rD, rA, rB` (R184). -/
def execMod (rd ra rb : Reg) (s : State) : Result :=
  writeReg rd (modOp s.cfg.sdivRounding (s.reg ra) (s.reg rb)).value s

/-- `MODS rD, rA, rB` (R186). -/
def execMods (rd ra rb : Reg) (s : State) : Result :=
  writeRegFlags rd (modOp s.cfg.sdivRounding (s.reg ra) (s.reg rb)) s

/-- `MODI rD, rA, #imm` (R185). -/
def execModi (rd ra : Reg) (imm : BitVec 16) (s : State) : Result :=
  writeReg rd (modOp s.cfg.sdivRounding (s.reg ra) (sext imm)).value s

/-- `MODIS rD, rA, #imm` (R187). -/
def execModis (rd ra : Reg) (imm : BitVec 16) (s : State) : Result :=
  writeRegFlags rd (modOp s.cfg.sdivRounding (s.reg ra) (sext imm)) s

/-- `MODU rD, rA, rB` (R189). -/
def execModu (rd ra rb : Reg) (s : State) : Result :=
  writeReg rd (moduOp (s.reg ra) (s.reg rb)).value s

/-- `MODUS rD, rA, rB` (R191). -/
def execModus (rd ra rb : Reg) (s : State) : Result :=
  writeRegFlags rd (moduOp (s.reg ra) (s.reg rb)) s

/-- `MODUI rD, rA, #imm` (R190). -/
def execModui (rd ra : Reg) (imm : BitVec 16) (s : State) : Result :=
  writeReg rd (moduOp (s.reg ra) (zext imm)).value s

/-- `MODUIS rD, rA, #imm` (R192). -/
def execModuis (rd ra : Reg) (imm : BitVec 16) (s : State) : Result :=
  writeRegFlags rd (moduOp (s.reg ra) (zext imm)) s

end Sys2Proof.Machine
end

