-- ==== Sys2Proof/Machine/Shift.lean ====
section
/-!
DEFINITION. The meanings of SHL, ASR, LSR, ROL and ROR (spec/42_shift.md), one definition per instruction.
-/

namespace Sys2Proof.Machine

/-- `SHL rD, rA, rB` (R204). -/
def execShl (rd ra rb : Reg) (s : State) : Result :=
  writeReg rd (shlOp s.cfg (s.reg ra) (s.reg rb) s.flags.c).value s

/-- `SHLS rD, rA, rB` (R206). -/
def execShls (rd ra rb : Reg) (s : State) : Result :=
  writeRegFlags rd (shlOp s.cfg (s.reg ra) (s.reg rb) s.flags.c) s

/-- `SHLI rD, rA, #imm` (R205). -/
def execShli (rd ra : Reg) (imm : BitVec 16) (s : State) : Result :=
  writeReg rd (shlOp s.cfg (s.reg ra) (zext imm) s.flags.c).value s

/-- `SHLIS rD, rA, #imm` (R207). -/
def execShlis (rd ra : Reg) (imm : BitVec 16) (s : State) : Result :=
  writeRegFlags rd (shlOp s.cfg (s.reg ra) (zext imm) s.flags.c) s

/-- `ASR rD, rA, rB` (R209). -/
def execAsr (rd ra rb : Reg) (s : State) : Result :=
  writeReg rd (asrOp s.cfg (s.reg ra) (s.reg rb) s.flags.c).value s

/-- `ASRS rD, rA, rB` (R211). -/
def execAsrs (rd ra rb : Reg) (s : State) : Result :=
  writeRegFlags rd (asrOp s.cfg (s.reg ra) (s.reg rb) s.flags.c) s

/-- `ASRI rD, rA, #imm` (R210). -/
def execAsri (rd ra : Reg) (imm : BitVec 16) (s : State) : Result :=
  writeReg rd (asrOp s.cfg (s.reg ra) (zext imm) s.flags.c).value s

/-- `ASRIS rD, rA, #imm` (R212). -/
def execAsris (rd ra : Reg) (imm : BitVec 16) (s : State) : Result :=
  writeRegFlags rd (asrOp s.cfg (s.reg ra) (zext imm) s.flags.c) s

/-- `LSR rD, rA, rB` (R214). -/
def execLsr (rd ra rb : Reg) (s : State) : Result :=
  writeReg rd (lsrOp s.cfg (s.reg ra) (s.reg rb) s.flags.c).value s

/-- `LSRS rD, rA, rB` (R216). -/
def execLsrs (rd ra rb : Reg) (s : State) : Result :=
  writeRegFlags rd (lsrOp s.cfg (s.reg ra) (s.reg rb) s.flags.c) s

/-- `LSRI rD, rA, #imm` (R215). -/
def execLsri (rd ra : Reg) (imm : BitVec 16) (s : State) : Result :=
  writeReg rd (lsrOp s.cfg (s.reg ra) (zext imm) s.flags.c).value s

/-- `LSRIS rD, rA, #imm` (R217). -/
def execLsris (rd ra : Reg) (imm : BitVec 16) (s : State) : Result :=
  writeRegFlags rd (lsrOp s.cfg (s.reg ra) (zext imm) s.flags.c) s

/-- `ROL rD, rA, rB` (R219). -/
def execRol (rd ra rb : Reg) (s : State) : Result :=
  writeReg rd (rolOp s.cfg (s.reg ra) (s.reg rb) s.flags.c).value s

/-- `ROLS rD, rA, rB` (R221). -/
def execRols (rd ra rb : Reg) (s : State) : Result :=
  writeRegFlags rd (rolOp s.cfg (s.reg ra) (s.reg rb) s.flags.c) s

/-- `ROLI rD, rA, #imm` (R220). -/
def execRoli (rd ra : Reg) (imm : BitVec 16) (s : State) : Result :=
  writeReg rd (rolOp s.cfg (s.reg ra) (zext imm) s.flags.c).value s

/-- `ROLIS rD, rA, #imm` (R222). -/
def execRolis (rd ra : Reg) (imm : BitVec 16) (s : State) : Result :=
  writeRegFlags rd (rolOp s.cfg (s.reg ra) (zext imm) s.flags.c) s

/-- `ROR rD, rA, rB` (R224). -/
def execRor (rd ra rb : Reg) (s : State) : Result :=
  writeReg rd (rorOp s.cfg (s.reg ra) (s.reg rb) s.flags.c).value s

/-- `RORS rD, rA, rB` (R226). -/
def execRors (rd ra rb : Reg) (s : State) : Result :=
  writeRegFlags rd (rorOp s.cfg (s.reg ra) (s.reg rb) s.flags.c) s

/-- `RORI rD, rA, #imm` (R225). -/
def execRori (rd ra : Reg) (imm : BitVec 16) (s : State) : Result :=
  writeReg rd (rorOp s.cfg (s.reg ra) (zext imm) s.flags.c).value s

/-- `RORIS rD, rA, #imm` (R227). -/
def execRoris (rd ra : Reg) (imm : BitVec 16) (s : State) : Result :=
  writeRegFlags rd (rorOp s.cfg (s.reg ra) (zext imm) s.flags.c) s

end Sys2Proof.Machine
end

