-- ==== Sys2Proof/Syntax.lean ====
section
/-!
DEFINITION. The instructions of GISA: one constructor per row of spec/opcode_table.json, its arguments in the
order in which the assembler writes them (spec/30_encoding.md R93). A split store immediate (R84) is held as the
one 16-bit or 20-bit number it stands for. Every field is as wide as its encoding, so every term of `Instr` is an
instruction that has a word.
-/

namespace Sys2Proof

/-- The 132 rows of the opcode table. -/
inductive Instr where
  -- Arithmetic (spec/40_arith_basic.md)
  /-- `MOV rD, rB` (R113). -/
  | mov (rd rb : Reg)
  /-- `MOVI rD, #imm` (R114). -/
  | movi (rd : Reg) (imm : BitVec 20)
  /-- `MOVIZ rD, #imm` (R115). -/
  | moviz (rd : Reg) (imm : BitVec 20)
  /-- `ADD rD, rA, rB` (R117). -/
  | add (rd ra rb : Reg)
  /-- `ADDS rD, rA, rB` (R119). -/
  | adds (rd ra rb : Reg)
  /-- `ADDI rD, rA, #imm` (R118). -/
  | addi (rd ra : Reg) (imm : BitVec 16)
  /-- `ADDIS rD, rA, #imm` (R120). -/
  | addis (rd ra : Reg) (imm : BitVec 16)
  /-- `SUB rD, rA, rB` (R122). -/
  | sub (rd ra rb : Reg)
  /-- `SUBS rD, rA, rB` (R124). -/
  | subs (rd ra rb : Reg)
  /-- `SUBI rD, rA, #imm` (R123). -/
  | subi (rd ra : Reg) (imm : BitVec 16)
  /-- `SUBIS rD, rA, #imm` (R125). -/
  | subis (rd ra : Reg) (imm : BitVec 16)
  /-- `MOVH rD, #imm` (R127). -/
  | movh (rd : Reg) (imm : BitVec 16)
  /-- `MOVHL rD, #imm` (R128). -/
  | movhl (rd : Reg) (imm : BitVec 20)
  /-- `CMP rA, rB` (R130). -/
  | cmp (ra rb : Reg)
  /-- `CMPS rA, rB` (R132). -/
  | cmps (ra rb : Reg)
  /-- `CMPI rA, #imm` (R131). -/
  | cmpi (ra : Reg) (imm : BitVec 16)
  /-- `CMPIS rA, #imm` (R133). -/
  | cmpis (ra : Reg) (imm : BitVec 16)
  -- Multiply and divide (spec/41_arith_muldiv.md)
  /-- `MUL rD, rA, rB` (R152). -/
  | mul (rd ra rb : Reg)
  /-- `MULS rD, rA, rB` (R154). -/
  | muls (rd ra rb : Reg)
  /-- `MULI rD, rA, #imm` (R153). -/
  | muli (rd ra : Reg) (imm : BitVec 16)
  /-- `MULIS rD, rA, #imm` (R155). -/
  | mulis (rd ra : Reg) (imm : BitVec 16)
  /-- `MULH rD, rA, rB` (R157). -/
  | mulh (rd ra rb : Reg)
  /-- `MULHS rD, rA, rB` (R159). -/
  | mulhs (rd ra rb : Reg)
  /-- `MULHI rD, rA, #imm` (R158). -/
  | mulhi (rd ra : Reg) (imm : BitVec 16)
  /-- `MULHIS rD, rA, #imm` (R160). -/
  | mulhis (rd ra : Reg) (imm : BitVec 16)
  /-- `MULHU rD, rA, rB` (R162). -/
  | mulhu (rd ra rb : Reg)
  /-- `MULHUS rD, rA, rB` (R164). -/
  | mulhus (rd ra rb : Reg)
  /-- `MULHUI rD, rA, #imm` (R163). -/
  | mulhui (rd ra : Reg) (imm : BitVec 16)
  /-- `MULHUIS rD, rA, #imm` (R165). -/
  | mulhuis (rd ra : Reg) (imm : BitVec 16)
  /-- `MULFX rD, rA, rB` (R168). -/
  | mulfx (rd ra rb : Reg)
  /-- `MULFXS rD, rA, rB` (R170). -/
  | mulfxs (rd ra rb : Reg)
  /-- `MULFXI rD, rA, #imm` (R169). -/
  | mulfxi (rd ra : Reg) (imm : BitVec 16)
  /-- `MULFXIS rD, rA, #imm` (R171). -/
  | mulfxis (rd ra : Reg) (imm : BitVec 16)
  /-- `DIV rD, rA, rB` (R174). -/
  | div (rd ra rb : Reg)
  /-- `DIVS rD, rA, rB` (R176). -/
  | divs (rd ra rb : Reg)
  /-- `DIVI rD, rA, #imm` (R175). -/
  | divi (rd ra : Reg) (imm : BitVec 16)
  /-- `DIVIS rD, rA, #imm` (R177). -/
  | divis (rd ra : Reg) (imm : BitVec 16)
  /-- `DIVU rD, rA, rB` (R179). -/
  | divu (rd ra rb : Reg)
  /-- `DIVUS rD, rA, rB` (R181). -/
  | divus (rd ra rb : Reg)
  /-- `DIVUI rD, rA, #imm` (R180). -/
  | divui (rd ra : Reg) (imm : BitVec 16)
  /-- `DIVUIS rD, rA, #imm` (R182). -/
  | divuis (rd ra : Reg) (imm : BitVec 16)
  /-- `MOD rD, rA, rB` (R184). -/
  | mod (rd ra rb : Reg)
  /-- `MODS rD, rA, rB` (R186). -/
  | mods (rd ra rb : Reg)
  /-- `MODI rD, rA, #imm` (R185). -/
  | modi (rd ra : Reg) (imm : BitVec 16)
  /-- `MODIS rD, rA, #imm` (R187). -/
  | modis (rd ra : Reg) (imm : BitVec 16)
  /-- `MODU rD, rA, rB` (R189). -/
  | modu (rd ra rb : Reg)
  /-- `MODUS rD, rA, rB` (R191). -/
  | modus (rd ra rb : Reg)
  /-- `MODUI rD, rA, #imm` (R190). -/
  | modui (rd ra : Reg) (imm : BitVec 16)
  /-- `MODUIS rD, rA, #imm` (R192). -/
  | moduis (rd ra : Reg) (imm : BitVec 16)
  -- Shift and rotate (spec/42_shift.md)
  /-- `SHL rD, rA, rB` (R204). -/
  | shl (rd ra rb : Reg)
  /-- `SHLS rD, rA, rB` (R206). -/
  | shls (rd ra rb : Reg)
  /-- `SHLI rD, rA, #imm` (R205). -/
  | shli (rd ra : Reg) (imm : BitVec 16)
  /-- `SHLIS rD, rA, #imm` (R207). -/
  | shlis (rd ra : Reg) (imm : BitVec 16)
  /-- `ASR rD, rA, rB` (R209). -/
  | asr (rd ra rb : Reg)
  /-- `ASRS rD, rA, rB` (R211). -/
  | asrs (rd ra rb : Reg)
  /-- `ASRI rD, rA, #imm` (R210). -/
  | asri (rd ra : Reg) (imm : BitVec 16)
  /-- `ASRIS rD, rA, #imm` (R212). -/
  | asris (rd ra : Reg) (imm : BitVec 16)
  /-- `LSR rD, rA, rB` (R214). -/
  | lsr (rd ra rb : Reg)
  /-- `LSRS rD, rA, rB` (R216). -/
  | lsrs (rd ra rb : Reg)
  /-- `LSRI rD, rA, #imm` (R215). -/
  | lsri (rd ra : Reg) (imm : BitVec 16)
  /-- `LSRIS rD, rA, #imm` (R217). -/
  | lsris (rd ra : Reg) (imm : BitVec 16)
  /-- `ROL rD, rA, rB` (R219). -/
  | rol (rd ra rb : Reg)
  /-- `ROLS rD, rA, rB` (R221). -/
  | rols (rd ra rb : Reg)
  /-- `ROLI rD, rA, #imm` (R220). -/
  | roli (rd ra : Reg) (imm : BitVec 16)
  /-- `ROLIS rD, rA, #imm` (R222). -/
  | rolis (rd ra : Reg) (imm : BitVec 16)
  /-- `ROR rD, rA, rB` (R224). -/
  | ror (rd ra rb : Reg)
  /-- `RORS rD, rA, rB` (R226). -/
  | rors (rd ra rb : Reg)
  /-- `RORI rD, rA, #imm` (R225). -/
  | rori (rd ra : Reg) (imm : BitVec 16)
  /-- `RORIS rD, rA, #imm` (R227). -/
  | roris (rd ra : Reg) (imm : BitVec 16)
  -- Logic (spec/43_logic.md)
  /-- `AND rD, rA, rB` (R242). -/
  | and (rd ra rb : Reg)
  /-- `ANDS rD, rA, rB` (R244). -/
  | ands (rd ra rb : Reg)
  /-- `ANDI rD, rA, #imm` (R243). -/
  | andi (rd ra : Reg) (imm : BitVec 16)
  /-- `ANDIS rD, rA, #imm` (R245). -/
  | andis (rd ra : Reg) (imm : BitVec 16)
  /-- `OR rD, rA, rB` (R247). -/
  | or (rd ra rb : Reg)
  /-- `ORS rD, rA, rB` (R249). -/
  | ors (rd ra rb : Reg)
  /-- `ORI rD, rA, #imm` (R248). -/
  | ori (rd ra : Reg) (imm : BitVec 16)
  /-- `ORIS rD, rA, #imm` (R250). -/
  | oris (rd ra : Reg) (imm : BitVec 16)
  /-- `XOR rD, rA, rB` (R252). -/
  | xor (rd ra rb : Reg)
  /-- `XORS rD, rA, rB` (R254). -/
  | xors (rd ra rb : Reg)
  /-- `XORI rD, rA, #imm` (R253). -/
  | xori (rd ra : Reg) (imm : BitVec 16)
  /-- `XORIS rD, rA, #imm` (R255). -/
  | xoris (rd ra : Reg) (imm : BitVec 16)
  /-- `BCHK rA, rB` (R262). -/
  | bchk (ra rb : Reg)
  /-- `BCHKS rA, rB` (R264). -/
  | bchks (ra rb : Reg)
  /-- `BCHKI rA, #imm` (R263). -/
  | bchki (ra : Reg) (imm : BitVec 16)
  /-- `BCHKIS rA, #imm` (R265). -/
  | bchkis (ra : Reg) (imm : BitVec 16)
  /-- `NOT rD, rB` (R257). -/
  | not (rd rb : Reg)
  /-- `NOTS rD, rB` (R259). -/
  | nots (rd rb : Reg)
  /-- `NOTI rD, #imm` (R258). -/
  | noti (rd : Reg) (imm : BitVec 20)
  /-- `NOTIS rD, #imm` (R260). -/
  | notis (rd : Reg) (imm : BitVec 20)
  -- Load and store (spec/44_load_store.md)
  /-- `LDR rD, rA, #imm` (R283). -/
  | ldr (rd ra : Reg) (imm : BitVec 16)
  /-- `LDRI rD, #imm` (R284). -/
  | ldri (rd : Reg) (imm : BitVec 20)
  /-- `LDRR rD, #imm` (R285). -/
  | ldrr (rd : Reg) (imm : BitVec 20)
  /-- `LDRB rD, rA, #imm` (R286). -/
  | ldrb (rd ra : Reg) (imm : BitVec 16)
  /-- `LDRBI rD, #imm` (R287). -/
  | ldrbi (rd : Reg) (imm : BitVec 20)
  /-- `LDRBR rD, #imm` (R288). -/
  | ldrbr (rd : Reg) (imm : BitVec 20)
  /-- `LDRSB rD, rA, #imm` (R289). -/
  | ldrsb (rd ra : Reg) (imm : BitVec 16)
  /-- `LDRSBI rD, #imm` (R290). -/
  | ldrsbi (rd : Reg) (imm : BitVec 20)
  /-- `LDRSBR rD, #imm` (R291). -/
  | ldrsbr (rd : Reg) (imm : BitVec 20)
  /-- `LDRH rD, rA, #imm` (R292). -/
  | ldrh (rd ra : Reg) (imm : BitVec 16)
  /-- `LDRHI rD, #imm` (R293). -/
  | ldrhi (rd : Reg) (imm : BitVec 20)
  /-- `LDRHR rD, #imm` (R294). -/
  | ldrhr (rd : Reg) (imm : BitVec 20)
  /-- `LDRSH rD, rA, #imm` (R295). -/
  | ldrsh (rd ra : Reg) (imm : BitVec 16)
  /-- `LDRSHI rD, #imm` (R296). -/
  | ldrshi (rd : Reg) (imm : BitVec 20)
  /-- `LDRSHR rD, #imm` (R297). -/
  | ldrshr (rd : Reg) (imm : BitVec 20)
  /-- `STR rB, rA, #imm` (R298). -/
  | str (rb ra : Reg) (imm : BitVec 16)
  /-- `STRI rB, #imm` (R299). -/
  | stri (rb : Reg) (imm : BitVec 20)
  /-- `STRR rB, #imm` (R300). -/
  | strr (rb : Reg) (imm : BitVec 20)
  /-- `STRB rB, rA, #imm` (R301). -/
  | strb (rb ra : Reg) (imm : BitVec 16)
  /-- `STRBI rB, #imm` (R302). -/
  | strbi (rb : Reg) (imm : BitVec 20)
  /-- `STRBR rB, #imm` (R303). -/
  | strbr (rb : Reg) (imm : BitVec 20)
  /-- `STRH rB, rA, #imm` (R304). -/
  | strh (rb ra : Reg) (imm : BitVec 16)
  /-- `STRHI rB, #imm` (R305). -/
  | strhi (rb : Reg) (imm : BitVec 20)
  /-- `STRHR rB, #imm` (R306). -/
  | strhr (rb : Reg) (imm : BitVec 20)
  -- Control (spec/45_control.md)
  /-- `BEQ #imm` (R330). -/
  | beq (imm : BitVec 22)
  /-- `BNE #imm` (R331). -/
  | bne (imm : BitVec 22)
  /-- `BCS #imm` (R332). -/
  | bcs (imm : BitVec 22)
  /-- `BCC #imm` (R333). -/
  | bcc (imm : BitVec 22)
  /-- `BMI #imm` (R334). -/
  | bmi (imm : BitVec 22)
  /-- `BPL #imm` (R335). -/
  | bpl (imm : BitVec 22)
  /-- `BVS #imm` (R336). -/
  | bvs (imm : BitVec 22)
  /-- `BVC #imm` (R337). -/
  | bvc (imm : BitVec 22)
  /-- `BHI #imm` (R338). -/
  | bhi (imm : BitVec 22)
  /-- `BLS #imm` (R339). -/
  | bls (imm : BitVec 22)
  /-- `BGE #imm` (R340). -/
  | bge (imm : BitVec 22)
  /-- `BLT #imm` (R341). -/
  | blt (imm : BitVec 22)
  /-- `BGT #imm` (R342). -/
  | bgt (imm : BitVec 22)
  /-- `BLE #imm` (R343). -/
  | ble (imm : BitVec 22)
  /-- `BAL #imm` (R344). -/
  | bal (imm : BitVec 22)
  /-- `JMP rA, #imm` (R323). -/
  | jmp (ra : Reg) (imm : BitVec 16)
  /-- `JMPI #imm` (R324). -/
  | jmpi (imm : BitVec 24)
  /-- `JMPL rD, rA, #imm` (R325). -/
  | jmpl (rd ra : Reg) (imm : BitVec 16)
  /-- `JMPIL rD, #imm` (R326). -/
  | jmpil (rd : Reg) (imm : BitVec 20)
  deriving DecidableEq, Repr

end Sys2Proof
end

