-- ==== Sys2Proof/Machine/Dispatch.lean ====
section
/-!
DEFINITION. The dispatch: one arm per constructor of `Instr`, each one call of the instruction's meaning.
-/

namespace Sys2Proof.Machine

def exec (i : Instr) (s : State) : Host.Outcome State Fault Refusal :=
  match i with
  | .mov rd rb => Sys2Proof.Machine.execMov rd rb s
  | .movi rd imm => Sys2Proof.Machine.execMovi rd imm s
  | .moviz rd imm => Sys2Proof.Machine.execMoviz rd imm s
  | .add rd ra rb => Sys2Proof.Machine.execAdd rd ra rb s
  | .adds rd ra rb => Sys2Proof.Machine.execAdds rd ra rb s
  | .addi rd ra imm => Sys2Proof.Machine.execAddi rd ra imm s
  | .addis rd ra imm => Sys2Proof.Machine.execAddis rd ra imm s
  | .sub rd ra rb => Sys2Proof.Machine.execSub rd ra rb s
  | .subs rd ra rb => Sys2Proof.Machine.execSubs rd ra rb s
  | .subi rd ra imm => Sys2Proof.Machine.execSubi rd ra imm s
  | .subis rd ra imm => Sys2Proof.Machine.execSubis rd ra imm s
  | .mul rd ra rb => Sys2Proof.Machine.execMul rd ra rb s
  | .muls rd ra rb => Sys2Proof.Machine.execMuls rd ra rb s
  | .muli rd ra imm => Sys2Proof.Machine.execMuli rd ra imm s
  | .mulis rd ra imm => Sys2Proof.Machine.execMulis rd ra imm s
  | .mulh rd ra rb => Sys2Proof.Machine.execMulh rd ra rb s
  | .mulhs rd ra rb => Sys2Proof.Machine.execMulhs rd ra rb s
  | .mulhi rd ra imm => Sys2Proof.Machine.execMulhi rd ra imm s
  | .mulhis rd ra imm => Sys2Proof.Machine.execMulhis rd ra imm s
  | .mulhu rd ra rb => Sys2Proof.Machine.execMulhu rd ra rb s
  | .mulhus rd ra rb => Sys2Proof.Machine.execMulhus rd ra rb s
  | .mulhui rd ra imm => Sys2Proof.Machine.execMulhui rd ra imm s
  | .mulhuis rd ra imm => Sys2Proof.Machine.execMulhuis rd ra imm s
  | .mulfx rd ra rb => Sys2Proof.Machine.execMulfx rd ra rb s
  | .mulfxs rd ra rb => Sys2Proof.Machine.execMulfxs rd ra rb s
  | .mulfxi rd ra imm => Sys2Proof.Machine.execMulfxi rd ra imm s
  | .mulfxis rd ra imm => Sys2Proof.Machine.execMulfxis rd ra imm s
  | .div rd ra rb => Sys2Proof.Machine.execDiv rd ra rb s
  | .divs rd ra rb => Sys2Proof.Machine.execDivs rd ra rb s
  | .divi rd ra imm => Sys2Proof.Machine.execDivi rd ra imm s
  | .divis rd ra imm => Sys2Proof.Machine.execDivis rd ra imm s
  | .divu rd ra rb => Sys2Proof.Machine.execDivu rd ra rb s
  | .divus rd ra rb => Sys2Proof.Machine.execDivus rd ra rb s
  | .divui rd ra imm => Sys2Proof.Machine.execDivui rd ra imm s
  | .divuis rd ra imm => Sys2Proof.Machine.execDivuis rd ra imm s
  | .mod rd ra rb => Sys2Proof.Machine.execMod rd ra rb s
  | .mods rd ra rb => Sys2Proof.Machine.execMods rd ra rb s
  | .modi rd ra imm => Sys2Proof.Machine.execModi rd ra imm s
  | .modis rd ra imm => Sys2Proof.Machine.execModis rd ra imm s
  | .modu rd ra rb => Sys2Proof.Machine.execModu rd ra rb s
  | .modus rd ra rb => Sys2Proof.Machine.execModus rd ra rb s
  | .modui rd ra imm => Sys2Proof.Machine.execModui rd ra imm s
  | .moduis rd ra imm => Sys2Proof.Machine.execModuis rd ra imm s
  | .shl rd ra rb => Sys2Proof.Machine.execShl rd ra rb s
  | .shls rd ra rb => Sys2Proof.Machine.execShls rd ra rb s
  | .shli rd ra imm => Sys2Proof.Machine.execShli rd ra imm s
  | .shlis rd ra imm => Sys2Proof.Machine.execShlis rd ra imm s
  | .asr rd ra rb => Sys2Proof.Machine.execAsr rd ra rb s
  | .asrs rd ra rb => Sys2Proof.Machine.execAsrs rd ra rb s
  | .asri rd ra imm => Sys2Proof.Machine.execAsri rd ra imm s
  | .asris rd ra imm => Sys2Proof.Machine.execAsris rd ra imm s
  | .lsr rd ra rb => Sys2Proof.Machine.execLsr rd ra rb s
  | .lsrs rd ra rb => Sys2Proof.Machine.execLsrs rd ra rb s
  | .lsri rd ra imm => Sys2Proof.Machine.execLsri rd ra imm s
  | .lsris rd ra imm => Sys2Proof.Machine.execLsris rd ra imm s
  | .rol rd ra rb => Sys2Proof.Machine.execRol rd ra rb s
  | .rols rd ra rb => Sys2Proof.Machine.execRols rd ra rb s
  | .roli rd ra imm => Sys2Proof.Machine.execRoli rd ra imm s
  | .rolis rd ra imm => Sys2Proof.Machine.execRolis rd ra imm s
  | .ror rd ra rb => Sys2Proof.Machine.execRor rd ra rb s
  | .rors rd ra rb => Sys2Proof.Machine.execRors rd ra rb s
  | .rori rd ra imm => Sys2Proof.Machine.execRori rd ra imm s
  | .roris rd ra imm => Sys2Proof.Machine.execRoris rd ra imm s
  | .and rd ra rb => Sys2Proof.Machine.execAnd rd ra rb s
  | .ands rd ra rb => Sys2Proof.Machine.execAnds rd ra rb s
  | .andi rd ra imm => Sys2Proof.Machine.execAndi rd ra imm s
  | .andis rd ra imm => Sys2Proof.Machine.execAndis rd ra imm s
  | .or rd ra rb => Sys2Proof.Machine.execOr rd ra rb s
  | .ors rd ra rb => Sys2Proof.Machine.execOrs rd ra rb s
  | .ori rd ra imm => Sys2Proof.Machine.execOri rd ra imm s
  | .oris rd ra imm => Sys2Proof.Machine.execOris rd ra imm s
  | .xor rd ra rb => Sys2Proof.Machine.execXor rd ra rb s
  | .xors rd ra rb => Sys2Proof.Machine.execXors rd ra rb s
  | .xori rd ra imm => Sys2Proof.Machine.execXori rd ra imm s
  | .xoris rd ra imm => Sys2Proof.Machine.execXoris rd ra imm s
  | .movh rd imm => Sys2Proof.Machine.execMovh rd imm s
  | .movhl rd imm => Sys2Proof.Machine.execMovhl rd imm s
  | .cmp ra rb => Sys2Proof.Machine.execCmp ra rb s
  | .cmps ra rb => Sys2Proof.Machine.execCmps ra rb s
  | .cmpi ra imm => Sys2Proof.Machine.execCmpi ra imm s
  | .cmpis ra imm => Sys2Proof.Machine.execCmpis ra imm s
  | .bchk ra rb => Sys2Proof.Machine.execBchk ra rb s
  | .bchks ra rb => Sys2Proof.Machine.execBchks ra rb s
  | .bchki ra imm => Sys2Proof.Machine.execBchki ra imm s
  | .bchkis ra imm => Sys2Proof.Machine.execBchkis ra imm s
  | .not rd rb => Sys2Proof.Machine.execNot rd rb s
  | .nots rd rb => Sys2Proof.Machine.execNots rd rb s
  | .noti rd imm => Sys2Proof.Machine.execNoti rd imm s
  | .notis rd imm => Sys2Proof.Machine.execNotis rd imm s
  | .ldr rd ra imm => Sys2Proof.Machine.execLdr rd ra imm s
  | .ldri rd imm => Sys2Proof.Machine.execLdri rd imm s
  | .ldrr rd imm => Sys2Proof.Machine.execLdrr rd imm s
  | .ldrb rd ra imm => Sys2Proof.Machine.execLdrb rd ra imm s
  | .ldrbi rd imm => Sys2Proof.Machine.execLdrbi rd imm s
  | .ldrbr rd imm => Sys2Proof.Machine.execLdrbr rd imm s
  | .ldrsb rd ra imm => Sys2Proof.Machine.execLdrsb rd ra imm s
  | .ldrsbi rd imm => Sys2Proof.Machine.execLdrsbi rd imm s
  | .ldrsbr rd imm => Sys2Proof.Machine.execLdrsbr rd imm s
  | .ldrh rd ra imm => Sys2Proof.Machine.execLdrh rd ra imm s
  | .ldrhi rd imm => Sys2Proof.Machine.execLdrhi rd imm s
  | .ldrhr rd imm => Sys2Proof.Machine.execLdrhr rd imm s
  | .ldrsh rd ra imm => Sys2Proof.Machine.execLdrsh rd ra imm s
  | .ldrshi rd imm => Sys2Proof.Machine.execLdrshi rd imm s
  | .ldrshr rd imm => Sys2Proof.Machine.execLdrshr rd imm s
  | .str rb ra imm => Sys2Proof.Machine.execStr rb ra imm s
  | .stri rb imm => Sys2Proof.Machine.execStri rb imm s
  | .strr rb imm => Sys2Proof.Machine.execStrr rb imm s
  | .strb rb ra imm => Sys2Proof.Machine.execStrb rb ra imm s
  | .strbi rb imm => Sys2Proof.Machine.execStrbi rb imm s
  | .strbr rb imm => Sys2Proof.Machine.execStrbr rb imm s
  | .strh rb ra imm => Sys2Proof.Machine.execStrh rb ra imm s
  | .strhi rb imm => Sys2Proof.Machine.execStrhi rb imm s
  | .strhr rb imm => Sys2Proof.Machine.execStrhr rb imm s
  | .beq imm => Sys2Proof.Machine.execBeq imm s
  | .bne imm => Sys2Proof.Machine.execBne imm s
  | .bcs imm => Sys2Proof.Machine.execBcs imm s
  | .bcc imm => Sys2Proof.Machine.execBcc imm s
  | .bmi imm => Sys2Proof.Machine.execBmi imm s
  | .bpl imm => Sys2Proof.Machine.execBpl imm s
  | .bvs imm => Sys2Proof.Machine.execBvs imm s
  | .bvc imm => Sys2Proof.Machine.execBvc imm s
  | .bhi imm => Sys2Proof.Machine.execBhi imm s
  | .bls imm => Sys2Proof.Machine.execBls imm s
  | .bge imm => Sys2Proof.Machine.execBge imm s
  | .blt imm => Sys2Proof.Machine.execBlt imm s
  | .bgt imm => Sys2Proof.Machine.execBgt imm s
  | .ble imm => Sys2Proof.Machine.execBle imm s
  | .bal imm => Sys2Proof.Machine.execBal imm s
  | .jmp ra imm => Sys2Proof.Machine.execJmp ra imm s
  | .jmpi imm => Sys2Proof.Machine.execJmpi imm s
  | .jmpl rd ra imm => Sys2Proof.Machine.execJmpl rd ra imm s
  | .jmpil rd imm => Sys2Proof.Machine.execJmpil rd imm s

end Sys2Proof.Machine
end

