-- ==== Sys2Proof/WellFormed.lean ====
section
/-!
DEFINITION. Well-formedness. A term of `Instr` is well formed by its type: every register field is 4 bits, every
immediate is as wide as its field, and the forms with no meaning (R87, R88, R90) have no constructor. What can be
ill formed is a line of assembly, and spec/30_encoding.md R93, R94, R96 and R98 say when: this file holds a line's
abstract syntax and every check an assembler must make, each refusing under a name of its own.
-/

namespace Sys2Proof

/-- An operand as the assembler writes it (R93): `R<n>` or `#<value>`. -/
inductive Operand where
  | reg (n : Nat)
  | imm (value : Int)
  deriving DecidableEq, Repr

/-- One instruction line: the mnemonic, then its operands in the order of R93. -/
structure AsmLine where
  mnemonic : String
  operands : List Operand
  deriving DecidableEq, Repr

/-- What an operand position takes, by the extension of its field (R83, R98). -/
inductive OperandKind where
  /-- A register R0 to R15. -/
  | reg
  /-- A field of `width` bits that the instruction sign-extends. -/
  | signed (width : Nat)
  /-- A field of `width` bits that the instruction zero-extends, or uses as it is (MOVH, MOVHL: assumption 26). -/
  | unsigned (width : Nat)
  /-- The byte offset of a branch: a signed field that an assembler refuses unless it is a multiple of 4 (R321). -/
  | offset (width : Nat)
  deriving DecidableEq, Repr

/-- Why a line is refused. -/
inductive AsmError where
  /-- One of the seven system instructions, which have no encoding (R96). -/
  | systemInstruction
  /-- `B` without a condition suffix (D27). -/
  | bareBranch
  /-- A mnemonic that no row of the table has (R94). -/
  | unknownMnemonic
  /-- Too few or too many operands (R93). -/
  | operandCount
  /-- An immediate where the form takes a register. -/
  | registerExpected
  /-- A register where the form takes an immediate. -/
  | immediateExpected
  /-- A register number above 15 (R20). -/
  | noSuchRegister
  /-- An immediate that does not fit its field (R98). -/
  | immediateOutOfRange
  /-- A branch offset that is no multiple of 4 (R321). -/
  | misalignedOffset
  deriving DecidableEq, Repr

/-- The mnemonics that the source names and that no assembler accepts (R96). -/
def AsmLine.systemMnemonics : List String :=
  ["SYSCALL", "RETEXC", "SETINT", "CLRINT", "WAITINT", "LDRSYS", "STRSYS"]

/-- `BHS` is another spelling of `BCS`, and `BLO` of `BCC` (R94, R320). -/
def AsmLine.canonicalMnemonic (m : String) : String :=
  if m = "BHS" then "BCS" else if m = "BLO" then "BCC" else m

/-- The operand kinds of the mnemonics of spec/40_arith_basic.md (R83, R93). -/
def AsmLine.arithSignatures : List (String × List OperandKind) :=
  [("MOV", [.reg, .reg]),
   ("MOVI", [.reg, .signed 20]),
   ("MOVIZ", [.reg, .unsigned 20]),
   ("ADD", [.reg, .reg, .reg]),
   ("ADDS", [.reg, .reg, .reg]),
   ("ADDI", [.reg, .reg, .signed 16]),
   ("ADDIS", [.reg, .reg, .signed 16]),
   ("SUB", [.reg, .reg, .reg]),
   ("SUBS", [.reg, .reg, .reg]),
   ("SUBI", [.reg, .reg, .signed 16]),
   ("SUBIS", [.reg, .reg, .signed 16]),
   ("MOVH", [.reg, .unsigned 16]),
   ("MOVHL", [.reg, .unsigned 20]),
   ("CMP", [.reg, .reg]),
   ("CMPS", [.reg, .reg]),
   ("CMPI", [.reg, .signed 16]),
   ("CMPIS", [.reg, .signed 16])]

/-- The operand kinds of the mnemonics of spec/41_arith_muldiv.md (R83, R93). -/
def AsmLine.mulDivSignatures : List (String × List OperandKind) :=
  [("MUL", [.reg, .reg, .reg]),
   ("MULS", [.reg, .reg, .reg]),
   ("MULI", [.reg, .reg, .signed 16]),
   ("MULIS", [.reg, .reg, .signed 16]),
   ("MULH", [.reg, .reg, .reg]),
   ("MULHS", [.reg, .reg, .reg]),
   ("MULHI", [.reg, .reg, .signed 16]),
   ("MULHIS", [.reg, .reg, .signed 16]),
   ("MULHU", [.reg, .reg, .reg]),
   ("MULHUS", [.reg, .reg, .reg]),
   ("MULHUI", [.reg, .reg, .unsigned 16]),
   ("MULHUIS", [.reg, .reg, .unsigned 16]),
   ("MULFX", [.reg, .reg, .reg]),
   ("MULFXS", [.reg, .reg, .reg]),
   ("MULFXI", [.reg, .reg, .signed 16]),
   ("MULFXIS", [.reg, .reg, .signed 16]),
   ("DIV", [.reg, .reg, .reg]),
   ("DIVS", [.reg, .reg, .reg]),
   ("DIVI", [.reg, .reg, .signed 16]),
   ("DIVIS", [.reg, .reg, .signed 16]),
   ("DIVU", [.reg, .reg, .reg]),
   ("DIVUS", [.reg, .reg, .reg]),
   ("DIVUI", [.reg, .reg, .unsigned 16]),
   ("DIVUIS", [.reg, .reg, .unsigned 16]),
   ("MOD", [.reg, .reg, .reg]),
   ("MODS", [.reg, .reg, .reg]),
   ("MODI", [.reg, .reg, .signed 16]),
   ("MODIS", [.reg, .reg, .signed 16]),
   ("MODU", [.reg, .reg, .reg]),
   ("MODUS", [.reg, .reg, .reg]),
   ("MODUI", [.reg, .reg, .unsigned 16]),
   ("MODUIS", [.reg, .reg, .unsigned 16])]

/-- The operand kinds of the mnemonics of spec/42_shift.md (R83, R93). -/
def AsmLine.shiftSignatures : List (String × List OperandKind) :=
  [("SHL", [.reg, .reg, .reg]),
   ("SHLS", [.reg, .reg, .reg]),
   ("SHLI", [.reg, .reg, .unsigned 16]),
   ("SHLIS", [.reg, .reg, .unsigned 16]),
   ("ASR", [.reg, .reg, .reg]),
   ("ASRS", [.reg, .reg, .reg]),
   ("ASRI", [.reg, .reg, .unsigned 16]),
   ("ASRIS", [.reg, .reg, .unsigned 16]),
   ("LSR", [.reg, .reg, .reg]),
   ("LSRS", [.reg, .reg, .reg]),
   ("LSRI", [.reg, .reg, .unsigned 16]),
   ("LSRIS", [.reg, .reg, .unsigned 16]),
   ("ROL", [.reg, .reg, .reg]),
   ("ROLS", [.reg, .reg, .reg]),
   ("ROLI", [.reg, .reg, .unsigned 16]),
   ("ROLIS", [.reg, .reg, .unsigned 16]),
   ("ROR", [.reg, .reg, .reg]),
   ("RORS", [.reg, .reg, .reg]),
   ("RORI", [.reg, .reg, .unsigned 16]),
   ("RORIS", [.reg, .reg, .unsigned 16])]

/-- The operand kinds of the mnemonics of spec/43_logic.md (R83, R93). -/
def AsmLine.logicSignatures : List (String × List OperandKind) :=
  [("AND", [.reg, .reg, .reg]),
   ("ANDS", [.reg, .reg, .reg]),
   ("ANDI", [.reg, .reg, .unsigned 16]),
   ("ANDIS", [.reg, .reg, .unsigned 16]),
   ("OR", [.reg, .reg, .reg]),
   ("ORS", [.reg, .reg, .reg]),
   ("ORI", [.reg, .reg, .unsigned 16]),
   ("ORIS", [.reg, .reg, .unsigned 16]),
   ("XOR", [.reg, .reg, .reg]),
   ("XORS", [.reg, .reg, .reg]),
   ("XORI", [.reg, .reg, .unsigned 16]),
   ("XORIS", [.reg, .reg, .unsigned 16]),
   ("BCHK", [.reg, .reg]),
   ("BCHKS", [.reg, .reg]),
   ("BCHKI", [.reg, .unsigned 16]),
   ("BCHKIS", [.reg, .unsigned 16]),
   ("NOT", [.reg, .reg]),
   ("NOTS", [.reg, .reg]),
   ("NOTI", [.reg, .unsigned 20]),
   ("NOTIS", [.reg, .unsigned 20])]

/-- The operand kinds of the mnemonics of spec/44_load_store.md (R83, R93). -/
def AsmLine.loadStoreSignatures : List (String × List OperandKind) :=
  [("LDR", [.reg, .reg, .signed 16]),
   ("LDRI", [.reg, .unsigned 20]),
   ("LDRR", [.reg, .signed 20]),
   ("LDRB", [.reg, .reg, .signed 16]),
   ("LDRBI", [.reg, .unsigned 20]),
   ("LDRBR", [.reg, .signed 20]),
   ("LDRSB", [.reg, .reg, .signed 16]),
   ("LDRSBI", [.reg, .unsigned 20]),
   ("LDRSBR", [.reg, .signed 20]),
   ("LDRH", [.reg, .reg, .signed 16]),
   ("LDRHI", [.reg, .unsigned 20]),
   ("LDRHR", [.reg, .signed 20]),
   ("LDRSH", [.reg, .reg, .signed 16]),
   ("LDRSHI", [.reg, .unsigned 20]),
   ("LDRSHR", [.reg, .signed 20]),
   ("STR", [.reg, .reg, .signed 16]),
   ("STRI", [.reg, .unsigned 20]),
   ("STRR", [.reg, .signed 20]),
   ("STRB", [.reg, .reg, .signed 16]),
   ("STRBI", [.reg, .unsigned 20]),
   ("STRBR", [.reg, .signed 20]),
   ("STRH", [.reg, .reg, .signed 16]),
   ("STRHI", [.reg, .unsigned 20]),
   ("STRHR", [.reg, .signed 20])]

/-- The operand kinds of the mnemonics of spec/45_control.md (R83, R93). -/
def AsmLine.controlSignatures : List (String × List OperandKind) :=
  [("BEQ", [.offset 22]),
   ("BNE", [.offset 22]),
   ("BCS", [.offset 22]),
   ("BCC", [.offset 22]),
   ("BMI", [.offset 22]),
   ("BPL", [.offset 22]),
   ("BVS", [.offset 22]),
   ("BVC", [.offset 22]),
   ("BHI", [.offset 22]),
   ("BLS", [.offset 22]),
   ("BGE", [.offset 22]),
   ("BLT", [.offset 22]),
   ("BGT", [.offset 22]),
   ("BLE", [.offset 22]),
   ("BAL", [.offset 22]),
   ("JMP", [.reg, .unsigned 16]),
   ("JMPI", [.unsigned 24]),
   ("JMPL", [.reg, .reg, .unsigned 16]),
   ("JMPIL", [.reg, .unsigned 20])]

/-- The operand kinds of every mnemonic. -/
def AsmLine.signatures : List (String × List OperandKind) :=
  arithSignatures ++ mulDivSignatures ++ shiftSignatures ++ logicSignatures ++ loadStoreSignatures ++
    controlSignatures

/-- The operand kinds of one mnemonic, or why it is refused. -/
def AsmLine.signature (m : String) : Except AsmError (List OperandKind) :=
  if systemMnemonics.contains m then .error .systemInstruction
  else if m = "B" then .error .bareBranch
  else
    match signatures.find? (fun row => row.1 == canonicalMnemonic m) with
    | some row => .ok row.2
    | none => .error .unknownMnemonic

/-- A sign-extended field of `width` bits takes -2^(width-1) to 2^width - 1, the upper half as bit patterns (R98). -/
def OperandKind.signedFits (width : Nat) (v : Int) : Bool :=
  decide (-(2 ^ (width - 1) : Int) ≤ v) && decide (v < (2 ^ width : Int))

/-- A zero-extended field of `width` bits takes 0 to 2^width - 1 (R98). -/
def OperandKind.unsignedFits (width : Nat) (v : Int) : Bool :=
  decide (0 ≤ v) && decide (v < (2 ^ width : Int))

/-- The check of one operand against the kind its position takes: why it is refused, if it is. -/
def OperandKind.check : OperandKind → Operand → Option AsmError
  | .reg, .reg n => if n < 16 then none else some .noSuchRegister
  | .reg, .imm _ => some .registerExpected
  | .signed _, .reg _ => some .immediateExpected
  | .signed w, .imm v => if signedFits w v then none else some .immediateOutOfRange
  | .unsigned _, .reg _ => some .immediateExpected
  | .unsigned w, .imm v => if unsignedFits w v then none else some .immediateOutOfRange
  | .offset _, .reg _ => some .immediateExpected
  | .offset w, .imm v =>
    if signedFits w v then
      if v % 4 = 0 then none else some .misalignedOffset
    else some .immediateOutOfRange

/-- The check of all operands, left to right. -/
def AsmLine.checkOperands : List OperandKind → List Operand → Option AsmError
  | [], [] => none
  | k :: ks, o :: os =>
    match k.check o with
    | none => checkOperands ks os
    | some e => some e
  | [], _ :: _ => some .operandCount
  | _ :: _, [] => some .operandCount

/-- Every check of a line, its mnemonic and then its operands: why the line is refused, if it is. -/
def AsmLine.check (l : AsmLine) : Option AsmError :=
  match signature l.mnemonic with
  | .error e => some e
  | .ok ks => checkOperands ks l.operands

/-- A line that an assembler accepts. -/
def AsmLine.wf (l : AsmLine) : Bool :=
  l.check.isNone

end Sys2Proof
end

