-- ==== Sys2Proof/Decode.lean ====
section
/-!
DEFINITION. The decoder, total on 32-bit words and refusing by name (spec/30_encoding.md R70 to R92), the encoder
written from the same formats, the rows of spec/opcode_table.json as data, and the assembler's encoding of a line
(R93 to R98).
-/

namespace Sys2Proof

/-! ## The opcode map -/

/-- The 33 assigned values of the opcode field (R86). -/
inductive Opcode where
  | mov
  | add
  | sub
  | movh
  | cmp
  | mul
  | mulh
  | mulhu
  | mulfx
  | div
  | divu
  | mod
  | modu
  | shl
  | asr
  | lsr
  | rol
  | ror
  | and
  | or
  | xor
  | not
  | bchk
  | ldr
  | ldrb
  | ldrsb
  | ldrh
  | ldrsh
  | str
  | strb
  | strh
  | b
  | jmp
  deriving DecidableEq, Repr

/-- The opcode field, bits 31:26 (R86). -/
def Opcode.bits : Opcode → BitVec 6
  | .mov => 0b000000#6
  | .add => 0b000001#6
  | .sub => 0b000010#6
  | .movh => 0b000011#6
  | .cmp => 0b000100#6
  | .mul => 0b000101#6
  | .mulh => 0b000110#6
  | .mulhu => 0b000111#6
  | .mulfx => 0b001000#6
  | .div => 0b001001#6
  | .divu => 0b001010#6
  | .mod => 0b001011#6
  | .modu => 0b001100#6
  | .shl => 0b011000#6
  | .asr => 0b011001#6
  | .lsr => 0b011010#6
  | .rol => 0b011011#6
  | .ror => 0b011100#6
  | .and => 0b100001#6
  | .or => 0b100010#6
  | .xor => 0b100011#6
  | .not => 0b100100#6
  | .bchk => 0b100101#6
  | .ldr => 0b101000#6
  | .ldrb => 0b101001#6
  | .ldrsb => 0b101010#6
  | .ldrh => 0b101011#6
  | .ldrsh => 0b101100#6
  | .str => 0b101101#6
  | .strb => 0b101110#6
  | .strh => 0b101111#6
  | .b => 0b110010#6
  | .jmp => 0b110011#6

/-- The opcode of a field value; the 31 unassigned values have none (R86, R89). -/
def Opcode.ofBits (b : BitVec 6) : Option Opcode :=
  match b.toNat with
  | 0x00 => some .mov
  | 0x01 => some .add
  | 0x02 => some .sub
  | 0x03 => some .movh
  | 0x04 => some .cmp
  | 0x05 => some .mul
  | 0x06 => some .mulh
  | 0x07 => some .mulhu
  | 0x08 => some .mulfx
  | 0x09 => some .div
  | 0x0A => some .divu
  | 0x0B => some .mod
  | 0x0C => some .modu
  | 0x18 => some .shl
  | 0x19 => some .asr
  | 0x1A => some .lsr
  | 0x1B => some .rol
  | 0x1C => some .ror
  | 0x21 => some .and
  | 0x22 => some .or
  | 0x23 => some .xor
  | 0x24 => some .not
  | 0x25 => some .bchk
  | 0x28 => some .ldr
  | 0x29 => some .ldrb
  | 0x2A => some .ldrsb
  | 0x2B => some .ldrh
  | 0x2C => some .ldrsh
  | 0x2D => some .str
  | 0x2E => some .strb
  | 0x2F => some .strh
  | 0x32 => some .b
  | 0x33 => some .jmp
  | _ => none

/-! ## The fields of a word (R70 to R81) -/

/-- Bits 31:26. -/
def opcodeField (w : Word) : BitVec 6 := w.extractLsb' 26 6

/-- Bit 25, the first mode bit (R82). -/
def mode25 (w : Word) : Bool := w.getLsbD 25

/-- Bit 24, the second mode bit (R82). -/
def mode24 (w : Word) : Bool := w.getLsbD 24

/-- Bits 23:20, the rD position. -/
def fieldD (w : Word) : BitVec 4 := w.extractLsb' 20 4

/-- Bits 19:16, the rA position. -/
def fieldA (w : Word) : BitVec 4 := w.extractLsb' 16 4

/-- Bits 15:12, the rB position. -/
def fieldB (w : Word) : BitVec 4 := w.extractLsb' 12 4

/-- Bits 11:0: reserved in the register forms, the low part of a store immediate. -/
def low12 (w : Word) : BitVec 12 := w.extractLsb' 0 12

/-- Bits 15:0, imm16. -/
def imm16Field (w : Word) : BitVec 16 := w.extractLsb' 0 16

/-- Bits 19:0, imm20. -/
def imm20Field (w : Word) : BitVec 20 := w.extractLsb' 0 20

/-- Bits 23:0, imm24 (R81). -/
def imm24Field (w : Word) : BitVec 24 := w.extractLsb' 0 24

/-- Bits 25:4, imm22 of a branch (R80). -/
def imm22Field (w : Word) : BitVec 22 := w.extractLsb' 4 22

/-- Bits 3:0, the condition of a branch (R80). -/
def condField (w : Word) : BitVec 4 := w.extractLsb' 0 4

/-- The displacement of a store: `(w[23:20] << 12) | w[11:0]` (R84). -/
def storeImm16 (w : Word) : BitVec 16 := (fieldD w).setWidth 16 <<< 12 ||| (low12 w).setWidth 16

/-- The 20-bit immediate of a store: `(w[23:16] << 12) | w[11:0]` (R84). -/
def storeImm20 (w : Word) : BitVec 20 := (w.extractLsb' 16 8).setWidth 20 <<< 12 ||| (low12 w).setWidth 20

/-! ## Decoding by format: a form whose reserved field is not zero is no instruction (R87) -/

/-- F-RRR (R71): bits 11:0 are reserved. -/
def decodeRRR (mk : Reg → Reg → Reg → Instr) (w : Word) : Option Instr :=
  if low12 w = 0 then some (mk (fieldD w) (fieldA w) (fieldB w)) else none

/-- F-RRI16 (R72): no reserved bit. -/
def decodeRRI16 (mk : Reg → Reg → BitVec 16 → Instr) (w : Word) : Option Instr :=
  some (mk (fieldD w) (fieldA w) (imm16Field w))

/-- F-R_R (R73): bits 19:16 and 11:0 are reserved. -/
def decodeRxR (mk : Reg → Reg → Instr) (w : Word) : Option Instr :=
  if fieldA w = 0 ∧ low12 w = 0 then some (mk (fieldD w) (fieldB w)) else none

/-- F-RI20 (R74): no reserved bit. -/
def decodeRI20 (mk : Reg → BitVec 20 → Instr) (w : Word) : Option Instr :=
  some (mk (fieldD w) (imm20Field w))

/-- F-R_I16 (R75): bits 19:16 are reserved. -/
def decodeRxI16 (mk : Reg → BitVec 16 → Instr) (w : Word) : Option Instr :=
  if fieldA w = 0 then some (mk (fieldD w) (imm16Field w)) else none

/-- F-_RR (R76): bits 23:20 and 11:0 are reserved. -/
def decodeXRR (mk : Reg → Reg → Instr) (w : Word) : Option Instr :=
  if fieldD w = 0 ∧ low12 w = 0 then some (mk (fieldA w) (fieldB w)) else none

/-- F-_RI16 (R77): bits 23:20 are reserved. -/
def decodeXRI16 (mk : Reg → BitVec 16 → Instr) (w : Word) : Option Instr :=
  if fieldD w = 0 then some (mk (fieldA w) (imm16Field w)) else none

/-- F-SD16 (R78): no reserved bit; the stored register is rB, the base rA. -/
def decodeSD16 (mk : Reg → Reg → BitVec 16 → Instr) (w : Word) : Option Instr :=
  some (mk (fieldB w) (fieldA w) (storeImm16 w))

/-- F-S20 (R79): no reserved bit; the stored register is rB. -/
def decodeS20 (mk : Reg → BitVec 20 → Instr) (w : Word) : Option Instr :=
  some (mk (fieldB w) (storeImm20 w))

/-- F-B (R80): the condition selects the mnemonic; 1111 is reserved (R90, R320). -/
def decodeB (w : Word) : Option Instr :=
  match (condField w).toNat with
  | 0 => some (.beq (imm22Field w))
  | 1 => some (.bne (imm22Field w))
  | 2 => some (.bcs (imm22Field w))
  | 3 => some (.bcc (imm22Field w))
  | 4 => some (.bmi (imm22Field w))
  | 5 => some (.bpl (imm22Field w))
  | 6 => some (.bvs (imm22Field w))
  | 7 => some (.bvc (imm22Field w))
  | 8 => some (.bhi (imm22Field w))
  | 9 => some (.bls (imm22Field w))
  | 10 => some (.bge (imm22Field w))
  | 11 => some (.blt (imm22Field w))
  | 12 => some (.bgt (imm22Field w))
  | 13 => some (.ble (imm22Field w))
  | 14 => some (.bal (imm22Field w))
  | _ => none

/-- F-I24 (R81): no reserved bit. -/
def decodeI24 (mk : BitVec 24 → Instr) (w : Word) : Option Instr :=
  some (mk (imm24Field w))

/-! ## Decoding by opcode and mode bits (R82, R88) -/

/-- The 18 opcodes of R71 and R72: bit 25 is I, bit 24 is S, and all four combinations are legal. -/
def decodeAlu (mk mkS : Reg → Reg → Reg → Instr) (mkI mkIS : Reg → Reg → BitVec 16 → Instr) (w : Word) :
    Option Instr :=
  match mode25 w, mode24 w with
  | false, false => decodeRRR mk w
  | false, true => decodeRRR mkS w
  | true, false => decodeRRI16 mkI w
  | true, true => decodeRRI16 mkIS w

/-- CMP and BCHK: as R71 without a destination (R76, R77). -/
def decodeTest (mk mkS : Reg → Reg → Instr) (mkI mkIS : Reg → BitVec 16 → Instr) (w : Word) : Option Instr :=
  match mode25 w, mode24 w with
  | false, false => decodeXRR mk w
  | false, true => decodeXRR mkS w
  | true, false => decodeXRI16 mkI w
  | true, true => decodeXRI16 mkIS w

/-- The five loads: bit 25 is I, bit 24 is R, and 11 is reserved (R82, R88). -/
def decodeLoad (mk : Reg → Reg → BitVec 16 → Instr) (mkI mkR : Reg → BitVec 20 → Instr) (w : Word) :
    Option Instr :=
  match mode25 w, mode24 w with
  | false, false => decodeRRI16 mk w
  | true, false => decodeRI20 mkI w
  | false, true => decodeRI20 mkR w
  | true, true => none

/-- The three stores: bit 25 is I, bit 24 is R, and 11 is reserved (R82, R88). -/
def decodeStore (mk : Reg → Reg → BitVec 16 → Instr) (mkI mkR : Reg → BitVec 20 → Instr) (w : Word) :
    Option Instr :=
  match mode25 w, mode24 w with
  | false, false => decodeSD16 mk w
  | true, false => decodeS20 mkI w
  | false, true => decodeS20 mkR w
  | true, true => none

/-- MOV: bit 25 is I, bit 24 is Z, which exists in immediate mode only (R82, R88). -/
def decodeMov (w : Word) : Option Instr :=
  match mode25 w, mode24 w with
  | false, false => decodeRxR .mov w
  | true, false => decodeRI20 .movi w
  | true, true => decodeRI20 .moviz w
  | false, true => none

/-- MOVH: bit 25 is L, bit 24 must be zero (R82, R88). -/
def decodeMovh (w : Word) : Option Instr :=
  match mode25 w, mode24 w with
  | false, false => decodeRxI16 .movh w
  | true, false => decodeRI20 .movhl w
  | false, true => none
  | true, true => none

/-- NOT: bit 25 is I, bit 24 is S; the operand is rB or a 20-bit immediate (R73, R74). -/
def decodeNot (w : Word) : Option Instr :=
  match mode25 w, mode24 w with
  | false, false => decodeRxR .not w
  | false, true => decodeRxR .nots w
  | true, false => decodeRI20 .noti w
  | true, true => decodeRI20 .notis w

/-- JMP: bit 25 is I, bit 24 is L (R82). -/
def decodeJmp (w : Word) : Option Instr :=
  match mode25 w, mode24 w with
  | false, false => decodeXRI16 .jmp w
  | true, false => decodeI24 .jmpi w
  | false, true => decodeRRI16 .jmpl w
  | true, true => decodeRI20 .jmpil w

/-- The instruction an assigned opcode and the rest of the word stand for, if any. -/
def decodeForm (op : Opcode) (w : Word) : Option Instr :=
  match op with
  | .mov => decodeMov w
  | .add => decodeAlu .add .adds .addi .addis w
  | .sub => decodeAlu .sub .subs .subi .subis w
  | .movh => decodeMovh w
  | .cmp => decodeTest .cmp .cmps .cmpi .cmpis w
  | .mul => decodeAlu .mul .muls .muli .mulis w
  | .mulh => decodeAlu .mulh .mulhs .mulhi .mulhis w
  | .mulhu => decodeAlu .mulhu .mulhus .mulhui .mulhuis w
  | .mulfx => decodeAlu .mulfx .mulfxs .mulfxi .mulfxis w
  | .div => decodeAlu .div .divs .divi .divis w
  | .divu => decodeAlu .divu .divus .divui .divuis w
  | .mod => decodeAlu .mod .mods .modi .modis w
  | .modu => decodeAlu .modu .modus .modui .moduis w
  | .shl => decodeAlu .shl .shls .shli .shlis w
  | .asr => decodeAlu .asr .asrs .asri .asris w
  | .lsr => decodeAlu .lsr .lsrs .lsri .lsris w
  | .rol => decodeAlu .rol .rols .roli .rolis w
  | .ror => decodeAlu .ror .rors .rori .roris w
  | .and => decodeAlu .and .ands .andi .andis w
  | .or => decodeAlu .or .ors .ori .oris w
  | .xor => decodeAlu .xor .xors .xori .xoris w
  | .not => decodeNot w
  | .bchk => decodeTest .bchk .bchks .bchki .bchkis w
  | .ldr => decodeLoad .ldr .ldri .ldrr w
  | .ldrb => decodeLoad .ldrb .ldrbi .ldrbr w
  | .ldrsb => decodeLoad .ldrsb .ldrsbi .ldrsbr w
  | .ldrh => decodeLoad .ldrh .ldrhi .ldrhr w
  | .ldrsh => decodeLoad .ldrsh .ldrshi .ldrshr w
  | .str => decodeStore .str .stri .strr w
  | .strb => decodeStore .strb .strbi .strbr w
  | .strh => decodeStore .strh .strhi .strhr w
  | .b => decodeB w
  | .jmp => decodeJmp w

/-- What a word decodes to (R92). -/
inductive Decoded where
  /-- The word is this instruction. -/
  | instr (i : Instr)
  /-- The opcode is one of the 31 unassigned values (R89). -/
  | illegalInstruction
  /-- The opcode is assigned and the rest is no form of it: a reserved field that is not zero, a reserved
  mode-bit combination, or condition 1111 (R87, R88, R90). -/
  | reservedEncoding
  deriving DecidableEq, Repr

/-- The decoder, total on 32-bit words (R92). -/
def decode (w : Word) : Decoded :=
  match Opcode.ofBits (opcodeField w) with
  | none => .illegalInstruction
  | some op =>
    match decodeForm op w with
    | some i => .instr i
    | none => .reservedEncoding

/-- The instruction of a word, if the word is one. -/
def Decoded.toOption : Decoded → Option Instr
  | .instr i => some i
  | .illegalInstruction => none
  | .reservedEncoding => none

/-! ## Encoding: the word formulas of the rules, `opcode << 26 | … | rD << 20 | rA << 16 | rB << 12 | imm` -/

/-- A field put at bit `lo` of a word. -/
def putField {n : Nat} (v : BitVec n) (lo : Nat) : Word := v.setWidth 32 <<< lo

/-- Opcode and mode bits (R70). -/
def encodeHead (op : Opcode) (m25 m24 : Bool) : Word :=
  putField op.bits 26 ||| putField (BitVec.ofBool m25) 25 ||| putField (BitVec.ofBool m24) 24

/-- F-RRR (R71). -/
def encodeRRR (op : Opcode) (m25 m24 : Bool) (rd ra rb : Reg) : Word :=
  encodeHead op m25 m24 ||| putField rd 20 ||| putField ra 16 ||| putField rb 12

/-- F-RRI16 (R72). -/
def encodeRRI16 (op : Opcode) (m25 m24 : Bool) (rd ra : Reg) (imm : BitVec 16) : Word :=
  encodeHead op m25 m24 ||| putField rd 20 ||| putField ra 16 ||| putField imm 0

/-- F-R_R (R73). -/
def encodeRxR (op : Opcode) (m25 m24 : Bool) (rd rb : Reg) : Word :=
  encodeHead op m25 m24 ||| putField rd 20 ||| putField rb 12

/-- F-RI20 (R74). -/
def encodeRI20 (op : Opcode) (m25 m24 : Bool) (rd : Reg) (imm : BitVec 20) : Word :=
  encodeHead op m25 m24 ||| putField rd 20 ||| putField imm 0

/-- F-R_I16 (R75). -/
def encodeRxI16 (op : Opcode) (m25 m24 : Bool) (rd : Reg) (imm : BitVec 16) : Word :=
  encodeHead op m25 m24 ||| putField rd 20 ||| putField imm 0

/-- F-_RR (R76). -/
def encodeXRR (op : Opcode) (m25 m24 : Bool) (ra rb : Reg) : Word :=
  encodeHead op m25 m24 ||| putField ra 16 ||| putField rb 12

/-- F-_RI16 (R77). -/
def encodeXRI16 (op : Opcode) (m25 m24 : Bool) (ra : Reg) (imm : BitVec 16) : Word :=
  encodeHead op m25 m24 ||| putField ra 16 ||| putField imm 0

/-- F-SD16 (R78, R84): bits 15:12 of the immediate go to 23:20, bits 11:0 to 11:0. -/
def encodeSD16 (op : Opcode) (m25 m24 : Bool) (rb ra : Reg) (imm : BitVec 16) : Word :=
  encodeHead op m25 m24 ||| putField (imm.extractLsb' 12 4) 20 ||| putField ra 16 ||| putField rb 12 |||
    putField (imm.extractLsb' 0 12) 0

/-- F-S20 (R79, R84): bits 19:12 of the immediate go to 23:16, bits 11:0 to 11:0. -/
def encodeS20 (op : Opcode) (m25 m24 : Bool) (rb : Reg) (imm : BitVec 20) : Word :=
  encodeHead op m25 m24 ||| putField (imm.extractLsb' 12 8) 16 ||| putField rb 12 |||
    putField (imm.extractLsb' 0 12) 0

/-- F-B (R80): no mode bits. -/
def encodeB (imm : BitVec 22) (cond : BitVec 4) : Word :=
  putField Opcode.b.bits 26 ||| putField imm 4 ||| putField cond 0

/-- F-I24 (R81). -/
def encodeI24 (op : Opcode) (m25 m24 : Bool) (imm : BitVec 24) : Word :=
  encodeHead op m25 m24 ||| putField imm 0

/-- The word of an instruction. -/
def encode : Instr → Word
  | .mov rd rb => encodeRxR .mov false false rd rb
  | .movi rd imm => encodeRI20 .mov true false rd imm
  | .moviz rd imm => encodeRI20 .mov true true rd imm
  | .add rd ra rb => encodeRRR .add false false rd ra rb
  | .adds rd ra rb => encodeRRR .add false true rd ra rb
  | .addi rd ra imm => encodeRRI16 .add true false rd ra imm
  | .addis rd ra imm => encodeRRI16 .add true true rd ra imm
  | .sub rd ra rb => encodeRRR .sub false false rd ra rb
  | .subs rd ra rb => encodeRRR .sub false true rd ra rb
  | .subi rd ra imm => encodeRRI16 .sub true false rd ra imm
  | .subis rd ra imm => encodeRRI16 .sub true true rd ra imm
  | .mul rd ra rb => encodeRRR .mul false false rd ra rb
  | .muls rd ra rb => encodeRRR .mul false true rd ra rb
  | .muli rd ra imm => encodeRRI16 .mul true false rd ra imm
  | .mulis rd ra imm => encodeRRI16 .mul true true rd ra imm
  | .mulh rd ra rb => encodeRRR .mulh false false rd ra rb
  | .mulhs rd ra rb => encodeRRR .mulh false true rd ra rb
  | .mulhi rd ra imm => encodeRRI16 .mulh true false rd ra imm
  | .mulhis rd ra imm => encodeRRI16 .mulh true true rd ra imm
  | .mulhu rd ra rb => encodeRRR .mulhu false false rd ra rb
  | .mulhus rd ra rb => encodeRRR .mulhu false true rd ra rb
  | .mulhui rd ra imm => encodeRRI16 .mulhu true false rd ra imm
  | .mulhuis rd ra imm => encodeRRI16 .mulhu true true rd ra imm
  | .mulfx rd ra rb => encodeRRR .mulfx false false rd ra rb
  | .mulfxs rd ra rb => encodeRRR .mulfx false true rd ra rb
  | .mulfxi rd ra imm => encodeRRI16 .mulfx true false rd ra imm
  | .mulfxis rd ra imm => encodeRRI16 .mulfx true true rd ra imm
  | .div rd ra rb => encodeRRR .div false false rd ra rb
  | .divs rd ra rb => encodeRRR .div false true rd ra rb
  | .divi rd ra imm => encodeRRI16 .div true false rd ra imm
  | .divis rd ra imm => encodeRRI16 .div true true rd ra imm
  | .divu rd ra rb => encodeRRR .divu false false rd ra rb
  | .divus rd ra rb => encodeRRR .divu false true rd ra rb
  | .divui rd ra imm => encodeRRI16 .divu true false rd ra imm
  | .divuis rd ra imm => encodeRRI16 .divu true true rd ra imm
  | .mod rd ra rb => encodeRRR .mod false false rd ra rb
  | .mods rd ra rb => encodeRRR .mod false true rd ra rb
  | .modi rd ra imm => encodeRRI16 .mod true false rd ra imm
  | .modis rd ra imm => encodeRRI16 .mod true true rd ra imm
  | .modu rd ra rb => encodeRRR .modu false false rd ra rb
  | .modus rd ra rb => encodeRRR .modu false true rd ra rb
  | .modui rd ra imm => encodeRRI16 .modu true false rd ra imm
  | .moduis rd ra imm => encodeRRI16 .modu true true rd ra imm
  | .shl rd ra rb => encodeRRR .shl false false rd ra rb
  | .shls rd ra rb => encodeRRR .shl false true rd ra rb
  | .shli rd ra imm => encodeRRI16 .shl true false rd ra imm
  | .shlis rd ra imm => encodeRRI16 .shl true true rd ra imm
  | .asr rd ra rb => encodeRRR .asr false false rd ra rb
  | .asrs rd ra rb => encodeRRR .asr false true rd ra rb
  | .asri rd ra imm => encodeRRI16 .asr true false rd ra imm
  | .asris rd ra imm => encodeRRI16 .asr true true rd ra imm
  | .lsr rd ra rb => encodeRRR .lsr false false rd ra rb
  | .lsrs rd ra rb => encodeRRR .lsr false true rd ra rb
  | .lsri rd ra imm => encodeRRI16 .lsr true false rd ra imm
  | .lsris rd ra imm => encodeRRI16 .lsr true true rd ra imm
  | .rol rd ra rb => encodeRRR .rol false false rd ra rb
  | .rols rd ra rb => encodeRRR .rol false true rd ra rb
  | .roli rd ra imm => encodeRRI16 .rol true false rd ra imm
  | .rolis rd ra imm => encodeRRI16 .rol true true rd ra imm
  | .ror rd ra rb => encodeRRR .ror false false rd ra rb
  | .rors rd ra rb => encodeRRR .ror false true rd ra rb
  | .rori rd ra imm => encodeRRI16 .ror true false rd ra imm
  | .roris rd ra imm => encodeRRI16 .ror true true rd ra imm
  | .and rd ra rb => encodeRRR .and false false rd ra rb
  | .ands rd ra rb => encodeRRR .and false true rd ra rb
  | .andi rd ra imm => encodeRRI16 .and true false rd ra imm
  | .andis rd ra imm => encodeRRI16 .and true true rd ra imm
  | .or rd ra rb => encodeRRR .or false false rd ra rb
  | .ors rd ra rb => encodeRRR .or false true rd ra rb
  | .ori rd ra imm => encodeRRI16 .or true false rd ra imm
  | .oris rd ra imm => encodeRRI16 .or true true rd ra imm
  | .xor rd ra rb => encodeRRR .xor false false rd ra rb
  | .xors rd ra rb => encodeRRR .xor false true rd ra rb
  | .xori rd ra imm => encodeRRI16 .xor true false rd ra imm
  | .xoris rd ra imm => encodeRRI16 .xor true true rd ra imm
  | .movh rd imm => encodeRxI16 .movh false false rd imm
  | .movhl rd imm => encodeRI20 .movh true false rd imm
  | .cmp ra rb => encodeXRR .cmp false false ra rb
  | .cmps ra rb => encodeXRR .cmp false true ra rb
  | .cmpi ra imm => encodeXRI16 .cmp true false ra imm
  | .cmpis ra imm => encodeXRI16 .cmp true true ra imm
  | .bchk ra rb => encodeXRR .bchk false false ra rb
  | .bchks ra rb => encodeXRR .bchk false true ra rb
  | .bchki ra imm => encodeXRI16 .bchk true false ra imm
  | .bchkis ra imm => encodeXRI16 .bchk true true ra imm
  | .not rd rb => encodeRxR .not false false rd rb
  | .nots rd rb => encodeRxR .not false true rd rb
  | .noti rd imm => encodeRI20 .not true false rd imm
  | .notis rd imm => encodeRI20 .not true true rd imm
  | .ldr rd ra imm => encodeRRI16 .ldr false false rd ra imm
  | .ldri rd imm => encodeRI20 .ldr true false rd imm
  | .ldrr rd imm => encodeRI20 .ldr false true rd imm
  | .ldrb rd ra imm => encodeRRI16 .ldrb false false rd ra imm
  | .ldrbi rd imm => encodeRI20 .ldrb true false rd imm
  | .ldrbr rd imm => encodeRI20 .ldrb false true rd imm
  | .ldrsb rd ra imm => encodeRRI16 .ldrsb false false rd ra imm
  | .ldrsbi rd imm => encodeRI20 .ldrsb true false rd imm
  | .ldrsbr rd imm => encodeRI20 .ldrsb false true rd imm
  | .ldrh rd ra imm => encodeRRI16 .ldrh false false rd ra imm
  | .ldrhi rd imm => encodeRI20 .ldrh true false rd imm
  | .ldrhr rd imm => encodeRI20 .ldrh false true rd imm
  | .ldrsh rd ra imm => encodeRRI16 .ldrsh false false rd ra imm
  | .ldrshi rd imm => encodeRI20 .ldrsh true false rd imm
  | .ldrshr rd imm => encodeRI20 .ldrsh false true rd imm
  | .str rb ra imm => encodeSD16 .str false false rb ra imm
  | .stri rb imm => encodeS20 .str true false rb imm
  | .strr rb imm => encodeS20 .str false true rb imm
  | .strb rb ra imm => encodeSD16 .strb false false rb ra imm
  | .strbi rb imm => encodeS20 .strb true false rb imm
  | .strbr rb imm => encodeS20 .strb false true rb imm
  | .strh rb ra imm => encodeSD16 .strh false false rb ra imm
  | .strhi rb imm => encodeS20 .strh true false rb imm
  | .strhr rb imm => encodeS20 .strh false true rb imm
  | .beq imm => encodeB imm 0b0000#4
  | .bne imm => encodeB imm 0b0001#4
  | .bcs imm => encodeB imm 0b0010#4
  | .bcc imm => encodeB imm 0b0011#4
  | .bmi imm => encodeB imm 0b0100#4
  | .bpl imm => encodeB imm 0b0101#4
  | .bvs imm => encodeB imm 0b0110#4
  | .bvc imm => encodeB imm 0b0111#4
  | .bhi imm => encodeB imm 0b1000#4
  | .bls imm => encodeB imm 0b1001#4
  | .bge imm => encodeB imm 0b1010#4
  | .blt imm => encodeB imm 0b1011#4
  | .bgt imm => encodeB imm 0b1100#4
  | .ble imm => encodeB imm 0b1101#4
  | .bal imm => encodeB imm 0b1110#4
  | .jmp ra imm => encodeXRI16 .jmp false false ra imm
  | .jmpi imm => encodeI24 .jmp true false imm
  | .jmpl rd ra imm => encodeRRI16 .jmp false true rd ra imm
  | .jmpil rd imm => encodeRI20 .jmp true true rd imm

/-! ## The opcode table as data (R92) -/

/-- The formats of R71 to R81. -/
inductive Format where
  | rrr
  | rri16
  | rxr
  | ri20
  | rxi16
  | xrr
  | xri16
  | sd16
  | s20
  | br
  | i24
  deriving DecidableEq, Repr

/-- One row of spec/opcode_table.json: a word `w` is the row's instruction when `w & mask = value`. -/
structure OpcodeRow where
  mnemonic : String
  format : Format
  mask : Word
  value : Word
  deriving DecidableEq, Repr

/-- The row's test on a word. -/
def OpcodeRow.accepts (r : OpcodeRow) (w : Word) : Bool := (w &&& r.mask) == r.value

/-- The rows of spec/40_arith_basic.md. -/
def arithRows : List OpcodeRow :=
  [⟨"MOV", .rxr, 0xFF0F0FFF, 0x00000000⟩,
   ⟨"MOVI", .ri20, 0xFF000000, 0x02000000⟩,
   ⟨"MOVIZ", .ri20, 0xFF000000, 0x03000000⟩,
   ⟨"ADD", .rrr, 0xFF000FFF, 0x04000000⟩,
   ⟨"ADDS", .rrr, 0xFF000FFF, 0x05000000⟩,
   ⟨"ADDI", .rri16, 0xFF000000, 0x06000000⟩,
   ⟨"ADDIS", .rri16, 0xFF000000, 0x07000000⟩,
   ⟨"SUB", .rrr, 0xFF000FFF, 0x08000000⟩,
   ⟨"SUBS", .rrr, 0xFF000FFF, 0x09000000⟩,
   ⟨"SUBI", .rri16, 0xFF000000, 0x0A000000⟩,
   ⟨"SUBIS", .rri16, 0xFF000000, 0x0B000000⟩,
   ⟨"MOVH", .rxi16, 0xFF0F0000, 0x0C000000⟩,
   ⟨"MOVHL", .ri20, 0xFF000000, 0x0E000000⟩,
   ⟨"CMP", .xrr, 0xFFF00FFF, 0x10000000⟩,
   ⟨"CMPS", .xrr, 0xFFF00FFF, 0x11000000⟩,
   ⟨"CMPI", .xri16, 0xFFF00000, 0x12000000⟩,
   ⟨"CMPIS", .xri16, 0xFFF00000, 0x13000000⟩]

/-- The rows of spec/41_arith_muldiv.md. -/
def mulDivRows : List OpcodeRow :=
  [⟨"MUL", .rrr, 0xFF000FFF, 0x14000000⟩,
   ⟨"MULS", .rrr, 0xFF000FFF, 0x15000000⟩,
   ⟨"MULI", .rri16, 0xFF000000, 0x16000000⟩,
   ⟨"MULIS", .rri16, 0xFF000000, 0x17000000⟩,
   ⟨"MULH", .rrr, 0xFF000FFF, 0x18000000⟩,
   ⟨"MULHS", .rrr, 0xFF000FFF, 0x19000000⟩,
   ⟨"MULHI", .rri16, 0xFF000000, 0x1A000000⟩,
   ⟨"MULHIS", .rri16, 0xFF000000, 0x1B000000⟩,
   ⟨"MULHU", .rrr, 0xFF000FFF, 0x1C000000⟩,
   ⟨"MULHUS", .rrr, 0xFF000FFF, 0x1D000000⟩,
   ⟨"MULHUI", .rri16, 0xFF000000, 0x1E000000⟩,
   ⟨"MULHUIS", .rri16, 0xFF000000, 0x1F000000⟩,
   ⟨"MULFX", .rrr, 0xFF000FFF, 0x20000000⟩,
   ⟨"MULFXS", .rrr, 0xFF000FFF, 0x21000000⟩,
   ⟨"MULFXI", .rri16, 0xFF000000, 0x22000000⟩,
   ⟨"MULFXIS", .rri16, 0xFF000000, 0x23000000⟩,
   ⟨"DIV", .rrr, 0xFF000FFF, 0x24000000⟩,
   ⟨"DIVS", .rrr, 0xFF000FFF, 0x25000000⟩,
   ⟨"DIVI", .rri16, 0xFF000000, 0x26000000⟩,
   ⟨"DIVIS", .rri16, 0xFF000000, 0x27000000⟩,
   ⟨"DIVU", .rrr, 0xFF000FFF, 0x28000000⟩,
   ⟨"DIVUS", .rrr, 0xFF000FFF, 0x29000000⟩,
   ⟨"DIVUI", .rri16, 0xFF000000, 0x2A000000⟩,
   ⟨"DIVUIS", .rri16, 0xFF000000, 0x2B000000⟩,
   ⟨"MOD", .rrr, 0xFF000FFF, 0x2C000000⟩,
   ⟨"MODS", .rrr, 0xFF000FFF, 0x2D000000⟩,
   ⟨"MODI", .rri16, 0xFF000000, 0x2E000000⟩,
   ⟨"MODIS", .rri16, 0xFF000000, 0x2F000000⟩,
   ⟨"MODU", .rrr, 0xFF000FFF, 0x30000000⟩,
   ⟨"MODUS", .rrr, 0xFF000FFF, 0x31000000⟩,
   ⟨"MODUI", .rri16, 0xFF000000, 0x32000000⟩,
   ⟨"MODUIS", .rri16, 0xFF000000, 0x33000000⟩]

/-- The rows of spec/42_shift.md. -/
def shiftRows : List OpcodeRow :=
  [⟨"SHL", .rrr, 0xFF000FFF, 0x60000000⟩,
   ⟨"SHLS", .rrr, 0xFF000FFF, 0x61000000⟩,
   ⟨"SHLI", .rri16, 0xFF000000, 0x62000000⟩,
   ⟨"SHLIS", .rri16, 0xFF000000, 0x63000000⟩,
   ⟨"ASR", .rrr, 0xFF000FFF, 0x64000000⟩,
   ⟨"ASRS", .rrr, 0xFF000FFF, 0x65000000⟩,
   ⟨"ASRI", .rri16, 0xFF000000, 0x66000000⟩,
   ⟨"ASRIS", .rri16, 0xFF000000, 0x67000000⟩,
   ⟨"LSR", .rrr, 0xFF000FFF, 0x68000000⟩,
   ⟨"LSRS", .rrr, 0xFF000FFF, 0x69000000⟩,
   ⟨"LSRI", .rri16, 0xFF000000, 0x6A000000⟩,
   ⟨"LSRIS", .rri16, 0xFF000000, 0x6B000000⟩,
   ⟨"ROL", .rrr, 0xFF000FFF, 0x6C000000⟩,
   ⟨"ROLS", .rrr, 0xFF000FFF, 0x6D000000⟩,
   ⟨"ROLI", .rri16, 0xFF000000, 0x6E000000⟩,
   ⟨"ROLIS", .rri16, 0xFF000000, 0x6F000000⟩,
   ⟨"ROR", .rrr, 0xFF000FFF, 0x70000000⟩,
   ⟨"RORS", .rrr, 0xFF000FFF, 0x71000000⟩,
   ⟨"RORI", .rri16, 0xFF000000, 0x72000000⟩,
   ⟨"RORIS", .rri16, 0xFF000000, 0x73000000⟩]

/-- The rows of spec/43_logic.md. -/
def logicRows : List OpcodeRow :=
  [⟨"AND", .rrr, 0xFF000FFF, 0x84000000⟩,
   ⟨"ANDS", .rrr, 0xFF000FFF, 0x85000000⟩,
   ⟨"ANDI", .rri16, 0xFF000000, 0x86000000⟩,
   ⟨"ANDIS", .rri16, 0xFF000000, 0x87000000⟩,
   ⟨"OR", .rrr, 0xFF000FFF, 0x88000000⟩,
   ⟨"ORS", .rrr, 0xFF000FFF, 0x89000000⟩,
   ⟨"ORI", .rri16, 0xFF000000, 0x8A000000⟩,
   ⟨"ORIS", .rri16, 0xFF000000, 0x8B000000⟩,
   ⟨"XOR", .rrr, 0xFF000FFF, 0x8C000000⟩,
   ⟨"XORS", .rrr, 0xFF000FFF, 0x8D000000⟩,
   ⟨"XORI", .rri16, 0xFF000000, 0x8E000000⟩,
   ⟨"XORIS", .rri16, 0xFF000000, 0x8F000000⟩,
   ⟨"BCHK", .xrr, 0xFFF00FFF, 0x94000000⟩,
   ⟨"BCHKS", .xrr, 0xFFF00FFF, 0x95000000⟩,
   ⟨"BCHKI", .xri16, 0xFFF00000, 0x96000000⟩,
   ⟨"BCHKIS", .xri16, 0xFFF00000, 0x97000000⟩,
   ⟨"NOT", .rxr, 0xFF0F0FFF, 0x90000000⟩,
   ⟨"NOTS", .rxr, 0xFF0F0FFF, 0x91000000⟩,
   ⟨"NOTI", .ri20, 0xFF000000, 0x92000000⟩,
   ⟨"NOTIS", .ri20, 0xFF000000, 0x93000000⟩]

/-- The rows of spec/44_load_store.md. -/
def loadStoreRows : List OpcodeRow :=
  [⟨"LDR", .rri16, 0xFF000000, 0xA0000000⟩,
   ⟨"LDRI", .ri20, 0xFF000000, 0xA2000000⟩,
   ⟨"LDRR", .ri20, 0xFF000000, 0xA1000000⟩,
   ⟨"LDRB", .rri16, 0xFF000000, 0xA4000000⟩,
   ⟨"LDRBI", .ri20, 0xFF000000, 0xA6000000⟩,
   ⟨"LDRBR", .ri20, 0xFF000000, 0xA5000000⟩,
   ⟨"LDRSB", .rri16, 0xFF000000, 0xA8000000⟩,
   ⟨"LDRSBI", .ri20, 0xFF000000, 0xAA000000⟩,
   ⟨"LDRSBR", .ri20, 0xFF000000, 0xA9000000⟩,
   ⟨"LDRH", .rri16, 0xFF000000, 0xAC000000⟩,
   ⟨"LDRHI", .ri20, 0xFF000000, 0xAE000000⟩,
   ⟨"LDRHR", .ri20, 0xFF000000, 0xAD000000⟩,
   ⟨"LDRSH", .rri16, 0xFF000000, 0xB0000000⟩,
   ⟨"LDRSHI", .ri20, 0xFF000000, 0xB2000000⟩,
   ⟨"LDRSHR", .ri20, 0xFF000000, 0xB1000000⟩,
   ⟨"STR", .sd16, 0xFF000000, 0xB4000000⟩,
   ⟨"STRI", .s20, 0xFF000000, 0xB6000000⟩,
   ⟨"STRR", .s20, 0xFF000000, 0xB5000000⟩,
   ⟨"STRB", .sd16, 0xFF000000, 0xB8000000⟩,
   ⟨"STRBI", .s20, 0xFF000000, 0xBA000000⟩,
   ⟨"STRBR", .s20, 0xFF000000, 0xB9000000⟩,
   ⟨"STRH", .sd16, 0xFF000000, 0xBC000000⟩,
   ⟨"STRHI", .s20, 0xFF000000, 0xBE000000⟩,
   ⟨"STRHR", .s20, 0xFF000000, 0xBD000000⟩]

/-- The rows of spec/45_control.md. -/
def controlRows : List OpcodeRow :=
  [⟨"BEQ", .br, 0xFC00000F, 0xC8000000⟩,
   ⟨"BNE", .br, 0xFC00000F, 0xC8000001⟩,
   ⟨"BCS", .br, 0xFC00000F, 0xC8000002⟩,
   ⟨"BCC", .br, 0xFC00000F, 0xC8000003⟩,
   ⟨"BMI", .br, 0xFC00000F, 0xC8000004⟩,
   ⟨"BPL", .br, 0xFC00000F, 0xC8000005⟩,
   ⟨"BVS", .br, 0xFC00000F, 0xC8000006⟩,
   ⟨"BVC", .br, 0xFC00000F, 0xC8000007⟩,
   ⟨"BHI", .br, 0xFC00000F, 0xC8000008⟩,
   ⟨"BLS", .br, 0xFC00000F, 0xC8000009⟩,
   ⟨"BGE", .br, 0xFC00000F, 0xC800000A⟩,
   ⟨"BLT", .br, 0xFC00000F, 0xC800000B⟩,
   ⟨"BGT", .br, 0xFC00000F, 0xC800000C⟩,
   ⟨"BLE", .br, 0xFC00000F, 0xC800000D⟩,
   ⟨"BAL", .br, 0xFC00000F, 0xC800000E⟩,
   ⟨"JMP", .xri16, 0xFFF00000, 0xCC000000⟩,
   ⟨"JMPI", .i24, 0xFF000000, 0xCE000000⟩,
   ⟨"JMPL", .rri16, 0xFF000000, 0xCD000000⟩,
   ⟨"JMPIL", .ri20, 0xFF000000, 0xCF000000⟩]

/-- The 132 rows. -/
def opcodeRows : List OpcodeRow :=
  arithRows ++ mulDivRows ++ shiftRows ++ logicRows ++ loadStoreRows ++ controlRows

/-- The row of a mnemonic. -/
def rowOf (mnemonic : String) : Option OpcodeRow :=
  opcodeRows.find? (fun r => r.mnemonic == mnemonic)

/-! ## Assembly (R93, R94, R98) -/

/-- The line that stands for an instruction: sign-extended fields as signed numbers, the others as unsigned ones,
operands in the order of R93. -/
def Instr.asm : Instr → AsmLine
  | .mov rd rb => ⟨"MOV", [.reg rd.toNat, .reg rb.toNat]⟩
  | .movi rd imm => ⟨"MOVI", [.reg rd.toNat, .imm imm.toInt]⟩
  | .moviz rd imm => ⟨"MOVIZ", [.reg rd.toNat, .imm imm.toNat]⟩
  | .add rd ra rb => ⟨"ADD", [.reg rd.toNat, .reg ra.toNat, .reg rb.toNat]⟩
  | .adds rd ra rb => ⟨"ADDS", [.reg rd.toNat, .reg ra.toNat, .reg rb.toNat]⟩
  | .addi rd ra imm => ⟨"ADDI", [.reg rd.toNat, .reg ra.toNat, .imm imm.toInt]⟩
  | .addis rd ra imm => ⟨"ADDIS", [.reg rd.toNat, .reg ra.toNat, .imm imm.toInt]⟩
  | .sub rd ra rb => ⟨"SUB", [.reg rd.toNat, .reg ra.toNat, .reg rb.toNat]⟩
  | .subs rd ra rb => ⟨"SUBS", [.reg rd.toNat, .reg ra.toNat, .reg rb.toNat]⟩
  | .subi rd ra imm => ⟨"SUBI", [.reg rd.toNat, .reg ra.toNat, .imm imm.toInt]⟩
  | .subis rd ra imm => ⟨"SUBIS", [.reg rd.toNat, .reg ra.toNat, .imm imm.toInt]⟩
  | .mul rd ra rb => ⟨"MUL", [.reg rd.toNat, .reg ra.toNat, .reg rb.toNat]⟩
  | .muls rd ra rb => ⟨"MULS", [.reg rd.toNat, .reg ra.toNat, .reg rb.toNat]⟩
  | .muli rd ra imm => ⟨"MULI", [.reg rd.toNat, .reg ra.toNat, .imm imm.toInt]⟩
  | .mulis rd ra imm => ⟨"MULIS", [.reg rd.toNat, .reg ra.toNat, .imm imm.toInt]⟩
  | .mulh rd ra rb => ⟨"MULH", [.reg rd.toNat, .reg ra.toNat, .reg rb.toNat]⟩
  | .mulhs rd ra rb => ⟨"MULHS", [.reg rd.toNat, .reg ra.toNat, .reg rb.toNat]⟩
  | .mulhi rd ra imm => ⟨"MULHI", [.reg rd.toNat, .reg ra.toNat, .imm imm.toInt]⟩
  | .mulhis rd ra imm => ⟨"MULHIS", [.reg rd.toNat, .reg ra.toNat, .imm imm.toInt]⟩
  | .mulhu rd ra rb => ⟨"MULHU", [.reg rd.toNat, .reg ra.toNat, .reg rb.toNat]⟩
  | .mulhus rd ra rb => ⟨"MULHUS", [.reg rd.toNat, .reg ra.toNat, .reg rb.toNat]⟩
  | .mulhui rd ra imm => ⟨"MULHUI", [.reg rd.toNat, .reg ra.toNat, .imm imm.toNat]⟩
  | .mulhuis rd ra imm => ⟨"MULHUIS", [.reg rd.toNat, .reg ra.toNat, .imm imm.toNat]⟩
  | .mulfx rd ra rb => ⟨"MULFX", [.reg rd.toNat, .reg ra.toNat, .reg rb.toNat]⟩
  | .mulfxs rd ra rb => ⟨"MULFXS", [.reg rd.toNat, .reg ra.toNat, .reg rb.toNat]⟩
  | .mulfxi rd ra imm => ⟨"MULFXI", [.reg rd.toNat, .reg ra.toNat, .imm imm.toInt]⟩
  | .mulfxis rd ra imm => ⟨"MULFXIS", [.reg rd.toNat, .reg ra.toNat, .imm imm.toInt]⟩
  | .div rd ra rb => ⟨"DIV", [.reg rd.toNat, .reg ra.toNat, .reg rb.toNat]⟩
  | .divs rd ra rb => ⟨"DIVS", [.reg rd.toNat, .reg ra.toNat, .reg rb.toNat]⟩
  | .divi rd ra imm => ⟨"DIVI", [.reg rd.toNat, .reg ra.toNat, .imm imm.toInt]⟩
  | .divis rd ra imm => ⟨"DIVIS", [.reg rd.toNat, .reg ra.toNat, .imm imm.toInt]⟩
  | .divu rd ra rb => ⟨"DIVU", [.reg rd.toNat, .reg ra.toNat, .reg rb.toNat]⟩
  | .divus rd ra rb => ⟨"DIVUS", [.reg rd.toNat, .reg ra.toNat, .reg rb.toNat]⟩
  | .divui rd ra imm => ⟨"DIVUI", [.reg rd.toNat, .reg ra.toNat, .imm imm.toNat]⟩
  | .divuis rd ra imm => ⟨"DIVUIS", [.reg rd.toNat, .reg ra.toNat, .imm imm.toNat]⟩
  | .mod rd ra rb => ⟨"MOD", [.reg rd.toNat, .reg ra.toNat, .reg rb.toNat]⟩
  | .mods rd ra rb => ⟨"MODS", [.reg rd.toNat, .reg ra.toNat, .reg rb.toNat]⟩
  | .modi rd ra imm => ⟨"MODI", [.reg rd.toNat, .reg ra.toNat, .imm imm.toInt]⟩
  | .modis rd ra imm => ⟨"MODIS", [.reg rd.toNat, .reg ra.toNat, .imm imm.toInt]⟩
  | .modu rd ra rb => ⟨"MODU", [.reg rd.toNat, .reg ra.toNat, .reg rb.toNat]⟩
  | .modus rd ra rb => ⟨"MODUS", [.reg rd.toNat, .reg ra.toNat, .reg rb.toNat]⟩
  | .modui rd ra imm => ⟨"MODUI", [.reg rd.toNat, .reg ra.toNat, .imm imm.toNat]⟩
  | .moduis rd ra imm => ⟨"MODUIS", [.reg rd.toNat, .reg ra.toNat, .imm imm.toNat]⟩
  | .shl rd ra rb => ⟨"SHL", [.reg rd.toNat, .reg ra.toNat, .reg rb.toNat]⟩
  | .shls rd ra rb => ⟨"SHLS", [.reg rd.toNat, .reg ra.toNat, .reg rb.toNat]⟩
  | .shli rd ra imm => ⟨"SHLI", [.reg rd.toNat, .reg ra.toNat, .imm imm.toNat]⟩
  | .shlis rd ra imm => ⟨"SHLIS", [.reg rd.toNat, .reg ra.toNat, .imm imm.toNat]⟩
  | .asr rd ra rb => ⟨"ASR", [.reg rd.toNat, .reg ra.toNat, .reg rb.toNat]⟩
  | .asrs rd ra rb => ⟨"ASRS", [.reg rd.toNat, .reg ra.toNat, .reg rb.toNat]⟩
  | .asri rd ra imm => ⟨"ASRI", [.reg rd.toNat, .reg ra.toNat, .imm imm.toNat]⟩
  | .asris rd ra imm => ⟨"ASRIS", [.reg rd.toNat, .reg ra.toNat, .imm imm.toNat]⟩
  | .lsr rd ra rb => ⟨"LSR", [.reg rd.toNat, .reg ra.toNat, .reg rb.toNat]⟩
  | .lsrs rd ra rb => ⟨"LSRS", [.reg rd.toNat, .reg ra.toNat, .reg rb.toNat]⟩
  | .lsri rd ra imm => ⟨"LSRI", [.reg rd.toNat, .reg ra.toNat, .imm imm.toNat]⟩
  | .lsris rd ra imm => ⟨"LSRIS", [.reg rd.toNat, .reg ra.toNat, .imm imm.toNat]⟩
  | .rol rd ra rb => ⟨"ROL", [.reg rd.toNat, .reg ra.toNat, .reg rb.toNat]⟩
  | .rols rd ra rb => ⟨"ROLS", [.reg rd.toNat, .reg ra.toNat, .reg rb.toNat]⟩
  | .roli rd ra imm => ⟨"ROLI", [.reg rd.toNat, .reg ra.toNat, .imm imm.toNat]⟩
  | .rolis rd ra imm => ⟨"ROLIS", [.reg rd.toNat, .reg ra.toNat, .imm imm.toNat]⟩
  | .ror rd ra rb => ⟨"ROR", [.reg rd.toNat, .reg ra.toNat, .reg rb.toNat]⟩
  | .rors rd ra rb => ⟨"RORS", [.reg rd.toNat, .reg ra.toNat, .reg rb.toNat]⟩
  | .rori rd ra imm => ⟨"RORI", [.reg rd.toNat, .reg ra.toNat, .imm imm.toNat]⟩
  | .roris rd ra imm => ⟨"RORIS", [.reg rd.toNat, .reg ra.toNat, .imm imm.toNat]⟩
  | .and rd ra rb => ⟨"AND", [.reg rd.toNat, .reg ra.toNat, .reg rb.toNat]⟩
  | .ands rd ra rb => ⟨"ANDS", [.reg rd.toNat, .reg ra.toNat, .reg rb.toNat]⟩
  | .andi rd ra imm => ⟨"ANDI", [.reg rd.toNat, .reg ra.toNat, .imm imm.toNat]⟩
  | .andis rd ra imm => ⟨"ANDIS", [.reg rd.toNat, .reg ra.toNat, .imm imm.toNat]⟩
  | .or rd ra rb => ⟨"OR", [.reg rd.toNat, .reg ra.toNat, .reg rb.toNat]⟩
  | .ors rd ra rb => ⟨"ORS", [.reg rd.toNat, .reg ra.toNat, .reg rb.toNat]⟩
  | .ori rd ra imm => ⟨"ORI", [.reg rd.toNat, .reg ra.toNat, .imm imm.toNat]⟩
  | .oris rd ra imm => ⟨"ORIS", [.reg rd.toNat, .reg ra.toNat, .imm imm.toNat]⟩
  | .xor rd ra rb => ⟨"XOR", [.reg rd.toNat, .reg ra.toNat, .reg rb.toNat]⟩
  | .xors rd ra rb => ⟨"XORS", [.reg rd.toNat, .reg ra.toNat, .reg rb.toNat]⟩
  | .xori rd ra imm => ⟨"XORI", [.reg rd.toNat, .reg ra.toNat, .imm imm.toNat]⟩
  | .xoris rd ra imm => ⟨"XORIS", [.reg rd.toNat, .reg ra.toNat, .imm imm.toNat]⟩
  | .movh rd imm => ⟨"MOVH", [.reg rd.toNat, .imm imm.toNat]⟩
  | .movhl rd imm => ⟨"MOVHL", [.reg rd.toNat, .imm imm.toNat]⟩
  | .cmp ra rb => ⟨"CMP", [.reg ra.toNat, .reg rb.toNat]⟩
  | .cmps ra rb => ⟨"CMPS", [.reg ra.toNat, .reg rb.toNat]⟩
  | .cmpi ra imm => ⟨"CMPI", [.reg ra.toNat, .imm imm.toInt]⟩
  | .cmpis ra imm => ⟨"CMPIS", [.reg ra.toNat, .imm imm.toInt]⟩
  | .bchk ra rb => ⟨"BCHK", [.reg ra.toNat, .reg rb.toNat]⟩
  | .bchks ra rb => ⟨"BCHKS", [.reg ra.toNat, .reg rb.toNat]⟩
  | .bchki ra imm => ⟨"BCHKI", [.reg ra.toNat, .imm imm.toNat]⟩
  | .bchkis ra imm => ⟨"BCHKIS", [.reg ra.toNat, .imm imm.toNat]⟩
  | .not rd rb => ⟨"NOT", [.reg rd.toNat, .reg rb.toNat]⟩
  | .nots rd rb => ⟨"NOTS", [.reg rd.toNat, .reg rb.toNat]⟩
  | .noti rd imm => ⟨"NOTI", [.reg rd.toNat, .imm imm.toNat]⟩
  | .notis rd imm => ⟨"NOTIS", [.reg rd.toNat, .imm imm.toNat]⟩
  | .ldr rd ra imm => ⟨"LDR", [.reg rd.toNat, .reg ra.toNat, .imm imm.toInt]⟩
  | .ldri rd imm => ⟨"LDRI", [.reg rd.toNat, .imm imm.toNat]⟩
  | .ldrr rd imm => ⟨"LDRR", [.reg rd.toNat, .imm imm.toInt]⟩
  | .ldrb rd ra imm => ⟨"LDRB", [.reg rd.toNat, .reg ra.toNat, .imm imm.toInt]⟩
  | .ldrbi rd imm => ⟨"LDRBI", [.reg rd.toNat, .imm imm.toNat]⟩
  | .ldrbr rd imm => ⟨"LDRBR", [.reg rd.toNat, .imm imm.toInt]⟩
  | .ldrsb rd ra imm => ⟨"LDRSB", [.reg rd.toNat, .reg ra.toNat, .imm imm.toInt]⟩
  | .ldrsbi rd imm => ⟨"LDRSBI", [.reg rd.toNat, .imm imm.toNat]⟩
  | .ldrsbr rd imm => ⟨"LDRSBR", [.reg rd.toNat, .imm imm.toInt]⟩
  | .ldrh rd ra imm => ⟨"LDRH", [.reg rd.toNat, .reg ra.toNat, .imm imm.toInt]⟩
  | .ldrhi rd imm => ⟨"LDRHI", [.reg rd.toNat, .imm imm.toNat]⟩
  | .ldrhr rd imm => ⟨"LDRHR", [.reg rd.toNat, .imm imm.toInt]⟩
  | .ldrsh rd ra imm => ⟨"LDRSH", [.reg rd.toNat, .reg ra.toNat, .imm imm.toInt]⟩
  | .ldrshi rd imm => ⟨"LDRSHI", [.reg rd.toNat, .imm imm.toNat]⟩
  | .ldrshr rd imm => ⟨"LDRSHR", [.reg rd.toNat, .imm imm.toInt]⟩
  | .str rb ra imm => ⟨"STR", [.reg rb.toNat, .reg ra.toNat, .imm imm.toInt]⟩
  | .stri rb imm => ⟨"STRI", [.reg rb.toNat, .imm imm.toNat]⟩
  | .strr rb imm => ⟨"STRR", [.reg rb.toNat, .imm imm.toInt]⟩
  | .strb rb ra imm => ⟨"STRB", [.reg rb.toNat, .reg ra.toNat, .imm imm.toInt]⟩
  | .strbi rb imm => ⟨"STRBI", [.reg rb.toNat, .imm imm.toNat]⟩
  | .strbr rb imm => ⟨"STRBR", [.reg rb.toNat, .imm imm.toInt]⟩
  | .strh rb ra imm => ⟨"STRH", [.reg rb.toNat, .reg ra.toNat, .imm imm.toInt]⟩
  | .strhi rb imm => ⟨"STRHI", [.reg rb.toNat, .imm imm.toNat]⟩
  | .strhr rb imm => ⟨"STRHR", [.reg rb.toNat, .imm imm.toInt]⟩
  | .beq imm => ⟨"BEQ", [.imm imm.toInt]⟩
  | .bne imm => ⟨"BNE", [.imm imm.toInt]⟩
  | .bcs imm => ⟨"BCS", [.imm imm.toInt]⟩
  | .bcc imm => ⟨"BCC", [.imm imm.toInt]⟩
  | .bmi imm => ⟨"BMI", [.imm imm.toInt]⟩
  | .bpl imm => ⟨"BPL", [.imm imm.toInt]⟩
  | .bvs imm => ⟨"BVS", [.imm imm.toInt]⟩
  | .bvc imm => ⟨"BVC", [.imm imm.toInt]⟩
  | .bhi imm => ⟨"BHI", [.imm imm.toInt]⟩
  | .bls imm => ⟨"BLS", [.imm imm.toInt]⟩
  | .bge imm => ⟨"BGE", [.imm imm.toInt]⟩
  | .blt imm => ⟨"BLT", [.imm imm.toInt]⟩
  | .bgt imm => ⟨"BGT", [.imm imm.toInt]⟩
  | .ble imm => ⟨"BLE", [.imm imm.toInt]⟩
  | .bal imm => ⟨"BAL", [.imm imm.toInt]⟩
  | .jmp ra imm => ⟨"JMP", [.reg ra.toNat, .imm imm.toNat]⟩
  | .jmpi imm => ⟨"JMPI", [.imm imm.toNat]⟩
  | .jmpl rd ra imm => ⟨"JMPL", [.reg rd.toNat, .reg ra.toNat, .imm imm.toNat]⟩
  | .jmpil rd imm => ⟨"JMPIL", [.reg rd.toNat, .imm imm.toNat]⟩

/-- The row's mnemonic in the table. -/
def Instr.mnemonic (i : Instr) : String := i.asm.mnemonic

/-- The operand fields of a word, by format: `none` where the operands have another shape. -/
def Format.fields : Format → List Operand → Option Word
  | .rrr, [.reg d, .reg a, .reg b] =>
    some (BitVec.ofNat 32 d <<< 20 ||| BitVec.ofNat 32 a <<< 16 ||| BitVec.ofNat 32 b <<< 12)
  | .rri16, [.reg d, .reg a, .imm v] =>
    some (BitVec.ofNat 32 d <<< 20 ||| BitVec.ofNat 32 a <<< 16 ||| (BitVec.ofInt 16 v).setWidth 32)
  | .rxr, [.reg d, .reg b] => some (BitVec.ofNat 32 d <<< 20 ||| BitVec.ofNat 32 b <<< 12)
  | .ri20, [.reg d, .imm v] => some (BitVec.ofNat 32 d <<< 20 ||| (BitVec.ofInt 20 v).setWidth 32)
  | .rxi16, [.reg d, .imm v] => some (BitVec.ofNat 32 d <<< 20 ||| (BitVec.ofInt 16 v).setWidth 32)
  | .xrr, [.reg a, .reg b] => some (BitVec.ofNat 32 a <<< 16 ||| BitVec.ofNat 32 b <<< 12)
  | .xri16, [.reg a, .imm v] => some (BitVec.ofNat 32 a <<< 16 ||| (BitVec.ofInt 16 v).setWidth 32)
  | .sd16, [.reg b, .reg a, .imm v] =>
    some (((BitVec.ofInt 16 v).extractLsb' 12 4).setWidth 32 <<< 20 ||| BitVec.ofNat 32 a <<< 16 |||
      BitVec.ofNat 32 b <<< 12 ||| ((BitVec.ofInt 16 v).extractLsb' 0 12).setWidth 32)
  | .s20, [.reg b, .imm v] =>
    some (((BitVec.ofInt 20 v).extractLsb' 12 8).setWidth 32 <<< 16 ||| BitVec.ofNat 32 b <<< 12 |||
      ((BitVec.ofInt 20 v).extractLsb' 0 12).setWidth 32)
  | .br, [.imm v] => some ((BitVec.ofInt 22 v).setWidth 32 <<< 4)
  | .i24, [.imm v] => some ((BitVec.ofInt 24 v).setWidth 32)
  | _, _ => none

/-- The word of a line: its row's value with the operand fields put in. `none` where a check of
Sys2Proof/WellFormed.lean refuses the line. -/
def assemble (l : AsmLine) : Option Word :=
  match l.check with
  | some _ => none
  | none =>
    match rowOf (AsmLine.canonicalMnemonic l.mnemonic) with
    | none => none
    | some row =>
      match row.format.fields l.operands with
      | none => none
      | some fields => some (row.value ||| fields)

/-! ## The text of a line (R93): `ADDI R0, R1, #-36` -/

/-- The characters before the first `sep`, and those after it if it occurs. -/
def splitFirst (sep : Char) : List Char → List Char × Option (List Char)
  | [] => ([], none)
  | c :: cs =>
    if c = sep then ([], some cs)
    else (c :: (splitFirst sep cs).1, (splitFirst sep cs).2)

/-- The value of a digit in a base of at most 16. The spec shows the hexadecimal digits A to F in capitals only (R93,
N20); that a to f are read as well is a DESIGN CHOICE (assumption 26). -/
def digitValue (base : Nat) (c : Char) : Option Nat :=
  let n := c.toNat
  let v :=
    if 48 ≤ n ∧ n ≤ 57 then n - 48
    else if 65 ≤ n ∧ n ≤ 70 then n - 55
    else if 97 ≤ n ∧ n ≤ 102 then n - 87
    else base
  if v < base then some v else none

/-- The value of digits read after `acc`. -/
def readDigits (base : Nat) : Nat → List Char → Option Nat
  | acc, [] => some acc
  | acc, c :: cs =>
    match digitValue base c with
    | none => none
    | some d => readDigits base (base * acc + d) cs

/-- An unsigned numeral: at least one digit. Leading zeros are read, as in `#007`: DESIGN CHOICE, the spec shows none
in decimal (R93, N20, assumption 26). -/
def readNumeral (base : Nat) : List Char → Option Nat
  | [] => none
  | c :: cs => readDigits base 0 (c :: cs)

/-- An immediate after its `#`: decimal, or hexadecimal with `0x`, after a `-` if negative (R93). The spec shows `-`
before decimal only: that it may stand before `0x` is a DESIGN CHOICE (assumption 26). -/
def readImmediate : List Char → Option Int
  | '-' :: '0' :: 'x' :: cs => (readNumeral 16 cs).map (fun n => -(n : Int))
  | '-' :: cs => (readNumeral 10 cs).map (fun n => -(n : Int))
  | '0' :: 'x' :: cs => (readNumeral 16 cs).map (fun n => (n : Int))
  | cs => (readNumeral 10 cs).map (fun n => (n : Int))

/-- One operand: `R<n>` or `#<immediate>`. The spec shows `R0` to `R15` (R93): that leading zeros are read, `R01` as
`R1`, is a DESIGN CHOICE (assumption 26). A number above 15 is refused by the check of the line. -/
def readOperand : List Char → Option Operand
  | 'R' :: cs => (readNumeral 10 cs).map .reg
  | '#' :: cs => (readImmediate cs).map .imm
  | _ => none

/-- Operands separated by a comma and a space; `fuel` bounds their number. -/
def readOperands : Nat → List Char → Option (List Operand)
  | 0, _ => none
  | fuel + 1, cs =>
    match readOperand (splitFirst ',' cs).1, (splitFirst ',' cs).2 with
    | some o, none => some [o]
    | some o, some (' ' :: rest) => (readOperands fuel rest).map (o :: ·)
    | some _, some _ => none
    | none, _ => none

/-- A line: the mnemonic, a space, the operands. No form has more than three operands. -/
def parseLine (text : String) : Option AsmLine :=
  match splitFirst ' ' text.toList with
  | (m, none) => some ⟨String.ofList m, []⟩
  | (m, some rest) => (readOperands 4 rest).map (AsmLine.mk (String.ofList m))

/-- From text to word. -/
def assembleText (text : String) : Option Word :=
  match parseLine text with
  | none => none
  | some l => assemble l

/-! ## The decoder on a table word -/

/-- The instruction the decoder reads from the word of a row: the word is laid out as four bytes in the byte order
of the default configuration, read back from them, and decoded. Bits above `nbits` are 0. -/
def decodeTableWord (nbits w : Nat) : Option Instr :=
  let bytes := Machine.bytesOf Config.default.byteOrder 4 (w % 2 ^ nbits)
  (decode (BitVec.ofNat 32 (Machine.valueOf Config.default.byteOrder bytes))).toOption

end Sys2Proof
end

