-- ==== Sys2Proof/Machine/Fetch.lean ====
section
/-!
DEFINITION. From the pc to an instruction: the fetch and the decode of one step (spec/00_scope.md R13 steps 1 and
2), and the store of a word where the fetch reads it.
-/

namespace Sys2Proof.Machine

/-- The fault of a word that is no instruction, or the instruction (R92, R372). -/
def decodeFault (pc : Word) : Decoded → Except Fault Instr
  | .instr i => .ok i
  | .illegalInstruction => .error (.illegalInstruction pc)
  | .reservedEncoding => .error (.reservedEncoding pc)

/-- The fetched and decoded instruction at `pc`, or the first fault on the way (R13, R375). -/
def State.fetchDecode (s : State) : Except Fault Instr :=
  match s.fetch with
  | .error f => .error f
  | .ok w => decodeFault s.pc (decode w)

/-- The state with a word stored where the fetch reads the next instruction. -/
def State.pokeFetchWord (s : State) (w : Word) : State := s.pokeValue s.pc 4 w.toNat

end Sys2Proof.Machine
end

