-- ==== Sys2Proof/Machine/Step.lean ====
section
/-!
DEFINITION. One step (spec/00_scope.md R13): a final state takes none (spec/70_reset_and_hazards.md R405);
otherwise fetch, decode and execute. The meaning itself moves the pc (spec/10_state.md R28).
-/

namespace Sys2Proof.Machine

/-- One step of the core. -/
def step (s : State) : Host.Outcome State Fault Refusal :=
  if s.atEnd then .refused .runEnded
  else
    match s.fetchDecode with
    | .error f => .fault f
    | .ok i => exec i s

/-- `s` with the instruction whose bits are `w` stored where `step` fetches its next instruction: the four bytes at
`pc`, in the byte order of the configuration. The bits above `nbits` are 0. -/
def State.withFetchWord (s : State) (nbits w : Nat) : State :=
  s.pokeFetchWord (BitVec.ofNat 32 (w % 2 ^ nbits))

end Sys2Proof.Machine
end

