-- ==== Sys2Proof/Machine/Launch.lean ====
section
/-!
DEFINITION. The host's launch (spec/70_reset_and_hazards.md R405, R406): what the host does before the first step.
-/

namespace Sys2Proof.Machine

/-- One region of the program text (R406): words one after the other from an address on. -/
structure TextRegion where
  /-- The address of the first word, a multiple of 4. -/
  base : Word
  words : List Word
  deriving DecidableEq, Repr

/-- The addresses of a text region (R58). -/
def TextRegion.region (g : TextRegion) : Region := ⟨g.base.toNat, 4 * g.words.length⟩

/-- Whether two text regions share no address. -/
def TextRegion.apart (g h : TextRegion) : Bool :=
  decide (g.region.base + g.region.size ≤ h.region.base) || decide (h.region.base + h.region.size ≤ g.region.base)

/-- The flags a launch fixes, each one or not (R406: chosen flags). -/
structure LaunchFlags where
  n : Option Bool
  z : Option Bool
  c : Option Bool
  v : Option Bool
  deriving DecidableEq, Repr

/-- A launch (R406): what the host fixes before the first step. Everything else is whatever it was. -/
structure Launch where
  /-- The text, in as many regions as the program has. -/
  text : List TextRegion
  /-- The initial contents of data bytes. -/
  data : List (Word × Byte)
  /-- `RESET_PC`. -/
  resetPc : Word
  /-- `END_PC`. -/
  endPc : Word
  /-- The registers the claim fixes. -/
  regs : List (Reg × Word)
  /-- The flags the claim fixes. -/
  flags : LaunchFlags
  deriving DecidableEq, Repr

/-- The program text as regions of addresses (R58, R406). -/
def Launch.textRegions (l : Launch) : List Region := l.text.map TextRegion.region

/-- A launch the host may make: each text region starts at a multiple of 4 and ends within the address space. -/
def Launch.wf (l : Launch) : Bool :=
  l.text.all (fun g => decide (g.base.toNat % 4 = 0) && decide (g.region.base + g.region.size ≤ 2 ^ 32))

/-- Whether `RESET_PC` is a multiple of 4 and inside the text. R401 says that it must be, and that the first step is a
fault otherwise: the fetch answers that fault. -/
def Launch.startsInText (l : Launch) : Bool :=
  decide (l.resetPc.toNat % 4 = 0) && regionsHave l.textRegions l.resetPc.toNat

/-- Whether a launch fixes no byte and no register twice. The spec does not say what one that does leaves: DESIGN
CHOICE, `State.launch` lets the later entry win (assumption 16). -/
def Launch.unambiguous (l : Launch) : Bool :=
  decide (l.text.Pairwise (fun g h => g.apart h = true)) &&
    l.data.all (fun c => !regionsHave l.textRegions c.1.toNat) &&
    decide (l.data.map (·.1)).Nodup && decide (l.regs.map (·.1)).Nodup

/-- The words of one region stored from an address on, each in the configured byte order (R45, R406). -/
def State.pokeWords (s : State) (addr : Word) : List Word → State
  | [] => s
  | w :: ws => State.pokeWords (s.pokeValue addr 4 w.toNat) (addr + 4) ws

/-- The text of a launch stored, region after region. -/
def State.pokeText (s : State) : List TextRegion → State
  | [] => s
  | g :: gs => State.pokeText (s.pokeWords g.base g.words) gs

/-- The registers a launch fixes. -/
def State.setRegs (s : State) : List (Reg × Word) → State
  | [] => s
  | rv :: rvs => State.setRegs (s.setReg rv.1 rv.2) rvs

/-- Each flag a launch fixes, and those it does not as they were. -/
def LaunchFlags.over (l : LaunchFlags) (f : Flags) : Flags :=
  ⟨l.n.getD f.n, l.z.getD f.z, l.c.getD f.c, l.v.getD f.v⟩

/-- The configuration of the run: the launch names `RESET_PC`, the text and `END_PC` (R401, R405, R406). -/
def Launch.config (l : Launch) (cfg : Config) : Config :=
  { cfg with resetPc := some l.resetPc, text := l.textRegions, endPc := some l.endPc }

/-- The state at the first step (R406): text and data in memory, `pc` at `RESET_PC`, the fixed registers and flags
set, and everything the launch does not fix as it was. Where a launch fixes a byte or a register twice, the later entry
wins, and data wins over text: DESIGN CHOICE, the spec is silent (assumption 16). -/
def State.launch (s : State) (l : Launch) : State :=
  let t := (s.pokeText l.text).setRegs l.regs
  { t with
    mem := t.mem.writeAll (l.data.map (fun c => (c.1.toNat, c.2)))
    flags := l.flags.over s.flags
    pc := l.resetPc
    cfg := l.config s.cfg }

end Sys2Proof.Machine
end

