-- ==== Sys2Proof/Safety.lean ====
section
/-!
DEFINITION. The terms in which statements about the machine are made: what an instruction may write, where a store
goes, when a run is final. Each table is written from spec/ and not from the meanings, so that a statement that
compares the two says something.
-/

namespace Sys2Proof.Machine

/-- The register that an instruction writes: the one its rD field names. The stores, the branches, CMP, BCHK, JMP and
JMPI have none (spec/10_state.md R23, spec/40_arith_basic.md R110, spec/44_load_store.md R282). -/
def destination : Instr → Option Reg
  | .mov rd _ => some rd
  | .movi rd _ => some rd
  | .moviz rd _ => some rd
  | .add rd _ _ => some rd
  | .adds rd _ _ => some rd
  | .addi rd _ _ => some rd
  | .addis rd _ _ => some rd
  | .sub rd _ _ => some rd
  | .subs rd _ _ => some rd
  | .subi rd _ _ => some rd
  | .subis rd _ _ => some rd
  | .mul rd _ _ => some rd
  | .muls rd _ _ => some rd
  | .muli rd _ _ => some rd
  | .mulis rd _ _ => some rd
  | .mulh rd _ _ => some rd
  | .mulhs rd _ _ => some rd
  | .mulhi rd _ _ => some rd
  | .mulhis rd _ _ => some rd
  | .mulhu rd _ _ => some rd
  | .mulhus rd _ _ => some rd
  | .mulhui rd _ _ => some rd
  | .mulhuis rd _ _ => some rd
  | .mulfx rd _ _ => some rd
  | .mulfxs rd _ _ => some rd
  | .mulfxi rd _ _ => some rd
  | .mulfxis rd _ _ => some rd
  | .div rd _ _ => some rd
  | .divs rd _ _ => some rd
  | .divi rd _ _ => some rd
  | .divis rd _ _ => some rd
  | .divu rd _ _ => some rd
  | .divus rd _ _ => some rd
  | .divui rd _ _ => some rd
  | .divuis rd _ _ => some rd
  | .mod rd _ _ => some rd
  | .mods rd _ _ => some rd
  | .modi rd _ _ => some rd
  | .modis rd _ _ => some rd
  | .modu rd _ _ => some rd
  | .modus rd _ _ => some rd
  | .modui rd _ _ => some rd
  | .moduis rd _ _ => some rd
  | .shl rd _ _ => some rd
  | .shls rd _ _ => some rd
  | .shli rd _ _ => some rd
  | .shlis rd _ _ => some rd
  | .asr rd _ _ => some rd
  | .asrs rd _ _ => some rd
  | .asri rd _ _ => some rd
  | .asris rd _ _ => some rd
  | .lsr rd _ _ => some rd
  | .lsrs rd _ _ => some rd
  | .lsri rd _ _ => some rd
  | .lsris rd _ _ => some rd
  | .rol rd _ _ => some rd
  | .rols rd _ _ => some rd
  | .roli rd _ _ => some rd
  | .rolis rd _ _ => some rd
  | .ror rd _ _ => some rd
  | .rors rd _ _ => some rd
  | .rori rd _ _ => some rd
  | .roris rd _ _ => some rd
  | .and rd _ _ => some rd
  | .ands rd _ _ => some rd
  | .andi rd _ _ => some rd
  | .andis rd _ _ => some rd
  | .or rd _ _ => some rd
  | .ors rd _ _ => some rd
  | .ori rd _ _ => some rd
  | .oris rd _ _ => some rd
  | .xor rd _ _ => some rd
  | .xors rd _ _ => some rd
  | .xori rd _ _ => some rd
  | .xoris rd _ _ => some rd
  | .movh rd _ => some rd
  | .movhl rd _ => some rd
  | .cmp _ _ => none
  | .cmps _ _ => none
  | .cmpi _ _ => none
  | .cmpis _ _ => none
  | .bchk _ _ => none
  | .bchks _ _ => none
  | .bchki _ _ => none
  | .bchkis _ _ => none
  | .not rd _ => some rd
  | .nots rd _ => some rd
  | .noti rd _ => some rd
  | .notis rd _ => some rd
  | .ldr rd _ _ => some rd
  | .ldri rd _ => some rd
  | .ldrr rd _ => some rd
  | .ldrb rd _ _ => some rd
  | .ldrbi rd _ => some rd
  | .ldrbr rd _ => some rd
  | .ldrsb rd _ _ => some rd
  | .ldrsbi rd _ => some rd
  | .ldrsbr rd _ => some rd
  | .ldrh rd _ _ => some rd
  | .ldrhi rd _ => some rd
  | .ldrhr rd _ => some rd
  | .ldrsh rd _ _ => some rd
  | .ldrshi rd _ => some rd
  | .ldrshr rd _ => some rd
  | .str _ _ _ => none
  | .stri _ _ => none
  | .strr _ _ => none
  | .strb _ _ _ => none
  | .strbi _ _ => none
  | .strbr _ _ => none
  | .strh _ _ _ => none
  | .strhi _ _ => none
  | .strhr _ _ => none
  | .beq _ => none
  | .bne _ => none
  | .bcs _ => none
  | .bcc _ => none
  | .bmi _ => none
  | .bpl _ => none
  | .bvs _ => none
  | .bvc _ => none
  | .bhi _ => none
  | .bls _ => none
  | .bge _ => none
  | .blt _ => none
  | .bgt _ => none
  | .ble _ => none
  | .bal _ => none
  | .jmp _ _ => none
  | .jmpi _ => none
  | .jmpl rd _ _ => some rd
  | .jmpil rd _ => some rd

/-- Whether an instruction writes the flags: one of the 21 opcodes with an S bit, the bit being 1 (spec/10_state.md
R25). -/
def setsFlags : Instr → Bool
  | .mov _ _ => false
  | .movi _ _ => false
  | .moviz _ _ => false
  | .add _ _ _ => false
  | .adds _ _ _ => true
  | .addi _ _ _ => false
  | .addis _ _ _ => true
  | .sub _ _ _ => false
  | .subs _ _ _ => true
  | .subi _ _ _ => false
  | .subis _ _ _ => true
  | .mul _ _ _ => false
  | .muls _ _ _ => true
  | .muli _ _ _ => false
  | .mulis _ _ _ => true
  | .mulh _ _ _ => false
  | .mulhs _ _ _ => true
  | .mulhi _ _ _ => false
  | .mulhis _ _ _ => true
  | .mulhu _ _ _ => false
  | .mulhus _ _ _ => true
  | .mulhui _ _ _ => false
  | .mulhuis _ _ _ => true
  | .mulfx _ _ _ => false
  | .mulfxs _ _ _ => true
  | .mulfxi _ _ _ => false
  | .mulfxis _ _ _ => true
  | .div _ _ _ => false
  | .divs _ _ _ => true
  | .divi _ _ _ => false
  | .divis _ _ _ => true
  | .divu _ _ _ => false
  | .divus _ _ _ => true
  | .divui _ _ _ => false
  | .divuis _ _ _ => true
  | .mod _ _ _ => false
  | .mods _ _ _ => true
  | .modi _ _ _ => false
  | .modis _ _ _ => true
  | .modu _ _ _ => false
  | .modus _ _ _ => true
  | .modui _ _ _ => false
  | .moduis _ _ _ => true
  | .shl _ _ _ => false
  | .shls _ _ _ => true
  | .shli _ _ _ => false
  | .shlis _ _ _ => true
  | .asr _ _ _ => false
  | .asrs _ _ _ => true
  | .asri _ _ _ => false
  | .asris _ _ _ => true
  | .lsr _ _ _ => false
  | .lsrs _ _ _ => true
  | .lsri _ _ _ => false
  | .lsris _ _ _ => true
  | .rol _ _ _ => false
  | .rols _ _ _ => true
  | .roli _ _ _ => false
  | .rolis _ _ _ => true
  | .ror _ _ _ => false
  | .rors _ _ _ => true
  | .rori _ _ _ => false
  | .roris _ _ _ => true
  | .and _ _ _ => false
  | .ands _ _ _ => true
  | .andi _ _ _ => false
  | .andis _ _ _ => true
  | .or _ _ _ => false
  | .ors _ _ _ => true
  | .ori _ _ _ => false
  | .oris _ _ _ => true
  | .xor _ _ _ => false
  | .xors _ _ _ => true
  | .xori _ _ _ => false
  | .xoris _ _ _ => true
  | .movh _ _ => false
  | .movhl _ _ => false
  | .cmp _ _ => false
  | .cmps _ _ => true
  | .cmpi _ _ => false
  | .cmpis _ _ => true
  | .bchk _ _ => false
  | .bchks _ _ => true
  | .bchki _ _ => false
  | .bchkis _ _ => true
  | .not _ _ => false
  | .nots _ _ => true
  | .noti _ _ => false
  | .notis _ _ => true
  | .ldr _ _ _ => false
  | .ldri _ _ => false
  | .ldrr _ _ => false
  | .ldrb _ _ _ => false
  | .ldrbi _ _ => false
  | .ldrbr _ _ => false
  | .ldrsb _ _ _ => false
  | .ldrsbi _ _ => false
  | .ldrsbr _ _ => false
  | .ldrh _ _ _ => false
  | .ldrhi _ _ => false
  | .ldrhr _ _ => false
  | .ldrsh _ _ _ => false
  | .ldrshi _ _ => false
  | .ldrshr _ _ => false
  | .str _ _ _ => false
  | .stri _ _ => false
  | .strr _ _ => false
  | .strb _ _ _ => false
  | .strbi _ _ => false
  | .strbr _ _ => false
  | .strh _ _ _ => false
  | .strhi _ _ => false
  | .strhr _ _ => false
  | .beq _ => false
  | .bne _ => false
  | .bcs _ => false
  | .bcc _ => false
  | .bmi _ => false
  | .bpl _ => false
  | .bvs _ => false
  | .bvc _ => false
  | .bhi _ => false
  | .bls _ => false
  | .bge _ => false
  | .blt _ => false
  | .bgt _ => false
  | .ble _ => false
  | .bal _ => false
  | .jmp _ _ => false
  | .jmpi _ => false
  | .jmpl _ _ _ => false
  | .jmpil _ _ => false

/-- The shift amount of a shift or rotate that sets the flags: by 0, it is the one form besides B whose effect can
depend on a flag (spec/42_shift.md R200, R201, R202). -/
def flagShiftAmount (s : State) : Instr → Option Nat
  | .mov _ _ => none
  | .movi _ _ => none
  | .moviz _ _ => none
  | .add _ _ _ => none
  | .adds _ _ _ => none
  | .addi _ _ _ => none
  | .addis _ _ _ => none
  | .sub _ _ _ => none
  | .subs _ _ _ => none
  | .subi _ _ _ => none
  | .subis _ _ _ => none
  | .mul _ _ _ => none
  | .muls _ _ _ => none
  | .muli _ _ _ => none
  | .mulis _ _ _ => none
  | .mulh _ _ _ => none
  | .mulhs _ _ _ => none
  | .mulhi _ _ _ => none
  | .mulhis _ _ _ => none
  | .mulhu _ _ _ => none
  | .mulhus _ _ _ => none
  | .mulhui _ _ _ => none
  | .mulhuis _ _ _ => none
  | .mulfx _ _ _ => none
  | .mulfxs _ _ _ => none
  | .mulfxi _ _ _ => none
  | .mulfxis _ _ _ => none
  | .div _ _ _ => none
  | .divs _ _ _ => none
  | .divi _ _ _ => none
  | .divis _ _ _ => none
  | .divu _ _ _ => none
  | .divus _ _ _ => none
  | .divui _ _ _ => none
  | .divuis _ _ _ => none
  | .mod _ _ _ => none
  | .mods _ _ _ => none
  | .modi _ _ _ => none
  | .modis _ _ _ => none
  | .modu _ _ _ => none
  | .modus _ _ _ => none
  | .modui _ _ _ => none
  | .moduis _ _ _ => none
  | .shl _ _ _ => none
  | .shls _ _ rb => some (shiftAmount s.cfg (s.reg rb))
  | .shli _ _ _ => none
  | .shlis _ _ imm => some (shiftAmount s.cfg (zext imm))
  | .asr _ _ _ => none
  | .asrs _ _ rb => some (shiftAmount s.cfg (s.reg rb))
  | .asri _ _ _ => none
  | .asris _ _ imm => some (shiftAmount s.cfg (zext imm))
  | .lsr _ _ _ => none
  | .lsrs _ _ rb => some (shiftAmount s.cfg (s.reg rb))
  | .lsri _ _ _ => none
  | .lsris _ _ imm => some (shiftAmount s.cfg (zext imm))
  | .rol _ _ _ => none
  | .rols _ _ rb => some (shiftAmount s.cfg (s.reg rb))
  | .roli _ _ _ => none
  | .rolis _ _ imm => some (shiftAmount s.cfg (zext imm))
  | .ror _ _ _ => none
  | .rors _ _ rb => some (shiftAmount s.cfg (s.reg rb))
  | .rori _ _ _ => none
  | .roris _ _ imm => some (shiftAmount s.cfg (zext imm))
  | .and _ _ _ => none
  | .ands _ _ _ => none
  | .andi _ _ _ => none
  | .andis _ _ _ => none
  | .or _ _ _ => none
  | .ors _ _ _ => none
  | .ori _ _ _ => none
  | .oris _ _ _ => none
  | .xor _ _ _ => none
  | .xors _ _ _ => none
  | .xori _ _ _ => none
  | .xoris _ _ _ => none
  | .movh _ _ => none
  | .movhl _ _ => none
  | .cmp _ _ => none
  | .cmps _ _ => none
  | .cmpi _ _ => none
  | .cmpis _ _ => none
  | .bchk _ _ => none
  | .bchks _ _ => none
  | .bchki _ _ => none
  | .bchkis _ _ => none
  | .not _ _ => none
  | .nots _ _ => none
  | .noti _ _ => none
  | .notis _ _ => none
  | .ldr _ _ _ => none
  | .ldri _ _ => none
  | .ldrr _ _ => none
  | .ldrb _ _ _ => none
  | .ldrbi _ _ => none
  | .ldrbr _ _ => none
  | .ldrsb _ _ _ => none
  | .ldrsbi _ _ => none
  | .ldrsbr _ _ => none
  | .ldrh _ _ _ => none
  | .ldrhi _ _ => none
  | .ldrhr _ _ => none
  | .ldrsh _ _ _ => none
  | .ldrshi _ _ => none
  | .ldrshr _ _ => none
  | .str _ _ _ => none
  | .stri _ _ => none
  | .strr _ _ => none
  | .strb _ _ _ => none
  | .strbi _ _ => none
  | .strbr _ _ => none
  | .strh _ _ _ => none
  | .strhi _ _ => none
  | .strhr _ _ => none
  | .beq _ => none
  | .bne _ => none
  | .bcs _ => none
  | .bcc _ => none
  | .bmi _ => none
  | .bpl _ => none
  | .bvs _ => none
  | .bvc _ => none
  | .bhi _ => none
  | .bls _ => none
  | .bge _ => none
  | .blt _ => none
  | .bgt _ => none
  | .ble _ => none
  | .bal _ => none
  | .jmp _ _ => none
  | .jmpi _ => none
  | .jmpl _ _ _ => none
  | .jmpil _ _ => none

/-- The condition of a branch; no other instruction has one (spec/45_control.md R320). -/
def branchCond : Instr → Option Cond
  | .mov _ _ => none
  | .movi _ _ => none
  | .moviz _ _ => none
  | .add _ _ _ => none
  | .adds _ _ _ => none
  | .addi _ _ _ => none
  | .addis _ _ _ => none
  | .sub _ _ _ => none
  | .subs _ _ _ => none
  | .subi _ _ _ => none
  | .subis _ _ _ => none
  | .mul _ _ _ => none
  | .muls _ _ _ => none
  | .muli _ _ _ => none
  | .mulis _ _ _ => none
  | .mulh _ _ _ => none
  | .mulhs _ _ _ => none
  | .mulhi _ _ _ => none
  | .mulhis _ _ _ => none
  | .mulhu _ _ _ => none
  | .mulhus _ _ _ => none
  | .mulhui _ _ _ => none
  | .mulhuis _ _ _ => none
  | .mulfx _ _ _ => none
  | .mulfxs _ _ _ => none
  | .mulfxi _ _ _ => none
  | .mulfxis _ _ _ => none
  | .div _ _ _ => none
  | .divs _ _ _ => none
  | .divi _ _ _ => none
  | .divis _ _ _ => none
  | .divu _ _ _ => none
  | .divus _ _ _ => none
  | .divui _ _ _ => none
  | .divuis _ _ _ => none
  | .mod _ _ _ => none
  | .mods _ _ _ => none
  | .modi _ _ _ => none
  | .modis _ _ _ => none
  | .modu _ _ _ => none
  | .modus _ _ _ => none
  | .modui _ _ _ => none
  | .moduis _ _ _ => none
  | .shl _ _ _ => none
  | .shls _ _ _ => none
  | .shli _ _ _ => none
  | .shlis _ _ _ => none
  | .asr _ _ _ => none
  | .asrs _ _ _ => none
  | .asri _ _ _ => none
  | .asris _ _ _ => none
  | .lsr _ _ _ => none
  | .lsrs _ _ _ => none
  | .lsri _ _ _ => none
  | .lsris _ _ _ => none
  | .rol _ _ _ => none
  | .rols _ _ _ => none
  | .roli _ _ _ => none
  | .rolis _ _ _ => none
  | .ror _ _ _ => none
  | .rors _ _ _ => none
  | .rori _ _ _ => none
  | .roris _ _ _ => none
  | .and _ _ _ => none
  | .ands _ _ _ => none
  | .andi _ _ _ => none
  | .andis _ _ _ => none
  | .or _ _ _ => none
  | .ors _ _ _ => none
  | .ori _ _ _ => none
  | .oris _ _ _ => none
  | .xor _ _ _ => none
  | .xors _ _ _ => none
  | .xori _ _ _ => none
  | .xoris _ _ _ => none
  | .movh _ _ => none
  | .movhl _ _ => none
  | .cmp _ _ => none
  | .cmps _ _ => none
  | .cmpi _ _ => none
  | .cmpis _ _ => none
  | .bchk _ _ => none
  | .bchks _ _ => none
  | .bchki _ _ => none
  | .bchkis _ _ => none
  | .not _ _ => none
  | .nots _ _ => none
  | .noti _ _ => none
  | .notis _ _ => none
  | .ldr _ _ _ => none
  | .ldri _ _ => none
  | .ldrr _ _ => none
  | .ldrb _ _ _ => none
  | .ldrbi _ _ => none
  | .ldrbr _ _ => none
  | .ldrsb _ _ _ => none
  | .ldrsbi _ _ => none
  | .ldrsbr _ _ => none
  | .ldrh _ _ _ => none
  | .ldrhi _ _ => none
  | .ldrhr _ _ => none
  | .ldrsh _ _ _ => none
  | .ldrshi _ _ => none
  | .ldrshr _ _ => none
  | .str _ _ _ => none
  | .stri _ _ => none
  | .strr _ _ => none
  | .strb _ _ _ => none
  | .strbi _ _ => none
  | .strbr _ _ => none
  | .strh _ _ _ => none
  | .strhi _ _ => none
  | .strhr _ _ => none
  | .beq _ => some .eq
  | .bne _ => some .ne
  | .bcs _ => some .cs
  | .bcc _ => some .cc
  | .bmi _ => some .mi
  | .bpl _ => some .pl
  | .bvs _ => some .vs
  | .bvc _ => some .vc
  | .bhi _ => some .hi
  | .bls _ => some .ls
  | .bge _ => some .ge
  | .blt _ => some .lt
  | .bgt _ => some .gt
  | .ble _ => some .le
  | .bal _ => some .al
  | .jmp _ _ => none
  | .jmpi _ => none
  | .jmpl _ _ _ => none
  | .jmpil _ _ => none

/-- Where an instruction sends `pc` other than to the next instruction, where it does: the target of a branch that is
taken and of the four jumps (spec/10_state.md R28). -/
def jumpTarget (s : State) : Instr → Option Word
  | .mov _ _ => none
  | .movi _ _ => none
  | .moviz _ _ => none
  | .add _ _ _ => none
  | .adds _ _ _ => none
  | .addi _ _ _ => none
  | .addis _ _ _ => none
  | .sub _ _ _ => none
  | .subs _ _ _ => none
  | .subi _ _ _ => none
  | .subis _ _ _ => none
  | .mul _ _ _ => none
  | .muls _ _ _ => none
  | .muli _ _ _ => none
  | .mulis _ _ _ => none
  | .mulh _ _ _ => none
  | .mulhs _ _ _ => none
  | .mulhi _ _ _ => none
  | .mulhis _ _ _ => none
  | .mulhu _ _ _ => none
  | .mulhus _ _ _ => none
  | .mulhui _ _ _ => none
  | .mulhuis _ _ _ => none
  | .mulfx _ _ _ => none
  | .mulfxs _ _ _ => none
  | .mulfxi _ _ _ => none
  | .mulfxis _ _ _ => none
  | .div _ _ _ => none
  | .divs _ _ _ => none
  | .divi _ _ _ => none
  | .divis _ _ _ => none
  | .divu _ _ _ => none
  | .divus _ _ _ => none
  | .divui _ _ _ => none
  | .divuis _ _ _ => none
  | .mod _ _ _ => none
  | .mods _ _ _ => none
  | .modi _ _ _ => none
  | .modis _ _ _ => none
  | .modu _ _ _ => none
  | .modus _ _ _ => none
  | .modui _ _ _ => none
  | .moduis _ _ _ => none
  | .shl _ _ _ => none
  | .shls _ _ _ => none
  | .shli _ _ _ => none
  | .shlis _ _ _ => none
  | .asr _ _ _ => none
  | .asrs _ _ _ => none
  | .asri _ _ _ => none
  | .asris _ _ _ => none
  | .lsr _ _ _ => none
  | .lsrs _ _ _ => none
  | .lsri _ _ _ => none
  | .lsris _ _ _ => none
  | .rol _ _ _ => none
  | .rols _ _ _ => none
  | .roli _ _ _ => none
  | .rolis _ _ _ => none
  | .ror _ _ _ => none
  | .rors _ _ _ => none
  | .rori _ _ _ => none
  | .roris _ _ _ => none
  | .and _ _ _ => none
  | .ands _ _ _ => none
  | .andi _ _ _ => none
  | .andis _ _ _ => none
  | .or _ _ _ => none
  | .ors _ _ _ => none
  | .ori _ _ _ => none
  | .oris _ _ _ => none
  | .xor _ _ _ => none
  | .xors _ _ _ => none
  | .xori _ _ _ => none
  | .xoris _ _ _ => none
  | .movh _ _ => none
  | .movhl _ _ => none
  | .cmp _ _ => none
  | .cmps _ _ => none
  | .cmpi _ _ => none
  | .cmpis _ _ => none
  | .bchk _ _ => none
  | .bchks _ _ => none
  | .bchki _ _ => none
  | .bchkis _ _ => none
  | .not _ _ => none
  | .nots _ _ => none
  | .noti _ _ => none
  | .notis _ _ => none
  | .ldr _ _ _ => none
  | .ldri _ _ => none
  | .ldrr _ _ => none
  | .ldrb _ _ _ => none
  | .ldrbi _ _ => none
  | .ldrbr _ _ => none
  | .ldrsb _ _ _ => none
  | .ldrsbi _ _ => none
  | .ldrsbr _ _ => none
  | .ldrh _ _ _ => none
  | .ldrhi _ _ => none
  | .ldrhr _ _ => none
  | .ldrsh _ _ _ => none
  | .ldrshi _ _ => none
  | .ldrshr _ _ => none
  | .str _ _ _ => none
  | .stri _ _ => none
  | .strr _ _ => none
  | .strb _ _ _ => none
  | .strbi _ _ => none
  | .strbr _ _ => none
  | .strh _ _ _ => none
  | .strhi _ _ => none
  | .strhr _ _ => none
  | .beq imm => if Cond.holds s.cfg.condLsLe s.flags .eq then some (branchTarget imm s) else none
  | .bne imm => if Cond.holds s.cfg.condLsLe s.flags .ne then some (branchTarget imm s) else none
  | .bcs imm => if Cond.holds s.cfg.condLsLe s.flags .cs then some (branchTarget imm s) else none
  | .bcc imm => if Cond.holds s.cfg.condLsLe s.flags .cc then some (branchTarget imm s) else none
  | .bmi imm => if Cond.holds s.cfg.condLsLe s.flags .mi then some (branchTarget imm s) else none
  | .bpl imm => if Cond.holds s.cfg.condLsLe s.flags .pl then some (branchTarget imm s) else none
  | .bvs imm => if Cond.holds s.cfg.condLsLe s.flags .vs then some (branchTarget imm s) else none
  | .bvc imm => if Cond.holds s.cfg.condLsLe s.flags .vc then some (branchTarget imm s) else none
  | .bhi imm => if Cond.holds s.cfg.condLsLe s.flags .hi then some (branchTarget imm s) else none
  | .bls imm => if Cond.holds s.cfg.condLsLe s.flags .ls then some (branchTarget imm s) else none
  | .bge imm => if Cond.holds s.cfg.condLsLe s.flags .ge then some (branchTarget imm s) else none
  | .blt imm => if Cond.holds s.cfg.condLsLe s.flags .lt then some (branchTarget imm s) else none
  | .bgt imm => if Cond.holds s.cfg.condLsLe s.flags .gt then some (branchTarget imm s) else none
  | .ble imm => if Cond.holds s.cfg.condLsLe s.flags .le then some (branchTarget imm s) else none
  | .bal imm => if Cond.holds s.cfg.condLsLe s.flags .al then some (branchTarget imm s) else none
  | .jmp ra imm => some (registerTarget ra imm s)
  | .jmpi imm => some (zext imm)
  | .jmpl _ ra imm => some (registerTarget ra imm s)
  | .jmpil _ imm => some (zext imm)

/-- The width and the address of a data access: of a load, which reads there (spec/44_load_store.md R280, R281). -/
def loadAccess (s : State) : Instr → Option (Width × Word)
  | .mov _ _ => none
  | .movi _ _ => none
  | .moviz _ _ => none
  | .add _ _ _ => none
  | .adds _ _ _ => none
  | .addi _ _ _ => none
  | .addis _ _ _ => none
  | .sub _ _ _ => none
  | .subs _ _ _ => none
  | .subi _ _ _ => none
  | .subis _ _ _ => none
  | .mul _ _ _ => none
  | .muls _ _ _ => none
  | .muli _ _ _ => none
  | .mulis _ _ _ => none
  | .mulh _ _ _ => none
  | .mulhs _ _ _ => none
  | .mulhi _ _ _ => none
  | .mulhis _ _ _ => none
  | .mulhu _ _ _ => none
  | .mulhus _ _ _ => none
  | .mulhui _ _ _ => none
  | .mulhuis _ _ _ => none
  | .mulfx _ _ _ => none
  | .mulfxs _ _ _ => none
  | .mulfxi _ _ _ => none
  | .mulfxis _ _ _ => none
  | .div _ _ _ => none
  | .divs _ _ _ => none
  | .divi _ _ _ => none
  | .divis _ _ _ => none
  | .divu _ _ _ => none
  | .divus _ _ _ => none
  | .divui _ _ _ => none
  | .divuis _ _ _ => none
  | .mod _ _ _ => none
  | .mods _ _ _ => none
  | .modi _ _ _ => none
  | .modis _ _ _ => none
  | .modu _ _ _ => none
  | .modus _ _ _ => none
  | .modui _ _ _ => none
  | .moduis _ _ _ => none
  | .shl _ _ _ => none
  | .shls _ _ _ => none
  | .shli _ _ _ => none
  | .shlis _ _ _ => none
  | .asr _ _ _ => none
  | .asrs _ _ _ => none
  | .asri _ _ _ => none
  | .asris _ _ _ => none
  | .lsr _ _ _ => none
  | .lsrs _ _ _ => none
  | .lsri _ _ _ => none
  | .lsris _ _ _ => none
  | .rol _ _ _ => none
  | .rols _ _ _ => none
  | .roli _ _ _ => none
  | .rolis _ _ _ => none
  | .ror _ _ _ => none
  | .rors _ _ _ => none
  | .rori _ _ _ => none
  | .roris _ _ _ => none
  | .and _ _ _ => none
  | .ands _ _ _ => none
  | .andi _ _ _ => none
  | .andis _ _ _ => none
  | .or _ _ _ => none
  | .ors _ _ _ => none
  | .ori _ _ _ => none
  | .oris _ _ _ => none
  | .xor _ _ _ => none
  | .xors _ _ _ => none
  | .xori _ _ _ => none
  | .xoris _ _ _ => none
  | .movh _ _ => none
  | .movhl _ _ => none
  | .cmp _ _ => none
  | .cmps _ _ => none
  | .cmpi _ _ => none
  | .cmpis _ _ => none
  | .bchk _ _ => none
  | .bchks _ _ => none
  | .bchki _ _ => none
  | .bchkis _ _ => none
  | .not _ _ => none
  | .nots _ _ => none
  | .noti _ _ => none
  | .notis _ _ => none
  | .ldr _ ra imm => some (.word, displacementAddr ra imm s)
  | .ldri _ imm => some (.word, absoluteAddr imm)
  | .ldrr _ imm => some (.word, pcRelativeAddr imm s)
  | .ldrb _ ra imm => some (.byte, displacementAddr ra imm s)
  | .ldrbi _ imm => some (.byte, absoluteAddr imm)
  | .ldrbr _ imm => some (.byte, pcRelativeAddr imm s)
  | .ldrsb _ ra imm => some (.byte, displacementAddr ra imm s)
  | .ldrsbi _ imm => some (.byte, absoluteAddr imm)
  | .ldrsbr _ imm => some (.byte, pcRelativeAddr imm s)
  | .ldrh _ ra imm => some (.half, displacementAddr ra imm s)
  | .ldrhi _ imm => some (.half, absoluteAddr imm)
  | .ldrhr _ imm => some (.half, pcRelativeAddr imm s)
  | .ldrsh _ ra imm => some (.half, displacementAddr ra imm s)
  | .ldrshi _ imm => some (.half, absoluteAddr imm)
  | .ldrshr _ imm => some (.half, pcRelativeAddr imm s)
  | .str _ _ _ => none
  | .stri _ _ => none
  | .strr _ _ => none
  | .strb _ _ _ => none
  | .strbi _ _ => none
  | .strbr _ _ => none
  | .strh _ _ _ => none
  | .strhi _ _ => none
  | .strhr _ _ => none
  | .beq _ => none
  | .bne _ => none
  | .bcs _ => none
  | .bcc _ => none
  | .bmi _ => none
  | .bpl _ => none
  | .bvs _ => none
  | .bvc _ => none
  | .bhi _ => none
  | .bls _ => none
  | .bge _ => none
  | .blt _ => none
  | .bgt _ => none
  | .ble _ => none
  | .bal _ => none
  | .jmp _ _ => none
  | .jmpi _ => none
  | .jmpl _ _ _ => none
  | .jmpil _ _ => none

/-- The width and the address of a store, which writes there (spec/44_load_store.md R280, R282). -/
def storeAccess (s : State) : Instr → Option (Width × Word)
  | .mov _ _ => none
  | .movi _ _ => none
  | .moviz _ _ => none
  | .add _ _ _ => none
  | .adds _ _ _ => none
  | .addi _ _ _ => none
  | .addis _ _ _ => none
  | .sub _ _ _ => none
  | .subs _ _ _ => none
  | .subi _ _ _ => none
  | .subis _ _ _ => none
  | .mul _ _ _ => none
  | .muls _ _ _ => none
  | .muli _ _ _ => none
  | .mulis _ _ _ => none
  | .mulh _ _ _ => none
  | .mulhs _ _ _ => none
  | .mulhi _ _ _ => none
  | .mulhis _ _ _ => none
  | .mulhu _ _ _ => none
  | .mulhus _ _ _ => none
  | .mulhui _ _ _ => none
  | .mulhuis _ _ _ => none
  | .mulfx _ _ _ => none
  | .mulfxs _ _ _ => none
  | .mulfxi _ _ _ => none
  | .mulfxis _ _ _ => none
  | .div _ _ _ => none
  | .divs _ _ _ => none
  | .divi _ _ _ => none
  | .divis _ _ _ => none
  | .divu _ _ _ => none
  | .divus _ _ _ => none
  | .divui _ _ _ => none
  | .divuis _ _ _ => none
  | .mod _ _ _ => none
  | .mods _ _ _ => none
  | .modi _ _ _ => none
  | .modis _ _ _ => none
  | .modu _ _ _ => none
  | .modus _ _ _ => none
  | .modui _ _ _ => none
  | .moduis _ _ _ => none
  | .shl _ _ _ => none
  | .shls _ _ _ => none
  | .shli _ _ _ => none
  | .shlis _ _ _ => none
  | .asr _ _ _ => none
  | .asrs _ _ _ => none
  | .asri _ _ _ => none
  | .asris _ _ _ => none
  | .lsr _ _ _ => none
  | .lsrs _ _ _ => none
  | .lsri _ _ _ => none
  | .lsris _ _ _ => none
  | .rol _ _ _ => none
  | .rols _ _ _ => none
  | .roli _ _ _ => none
  | .rolis _ _ _ => none
  | .ror _ _ _ => none
  | .rors _ _ _ => none
  | .rori _ _ _ => none
  | .roris _ _ _ => none
  | .and _ _ _ => none
  | .ands _ _ _ => none
  | .andi _ _ _ => none
  | .andis _ _ _ => none
  | .or _ _ _ => none
  | .ors _ _ _ => none
  | .ori _ _ _ => none
  | .oris _ _ _ => none
  | .xor _ _ _ => none
  | .xors _ _ _ => none
  | .xori _ _ _ => none
  | .xoris _ _ _ => none
  | .movh _ _ => none
  | .movhl _ _ => none
  | .cmp _ _ => none
  | .cmps _ _ => none
  | .cmpi _ _ => none
  | .cmpis _ _ => none
  | .bchk _ _ => none
  | .bchks _ _ => none
  | .bchki _ _ => none
  | .bchkis _ _ => none
  | .not _ _ => none
  | .nots _ _ => none
  | .noti _ _ => none
  | .notis _ _ => none
  | .ldr _ _ _ => none
  | .ldri _ _ => none
  | .ldrr _ _ => none
  | .ldrb _ _ _ => none
  | .ldrbi _ _ => none
  | .ldrbr _ _ => none
  | .ldrsb _ _ _ => none
  | .ldrsbi _ _ => none
  | .ldrsbr _ _ => none
  | .ldrh _ _ _ => none
  | .ldrhi _ _ => none
  | .ldrhr _ _ => none
  | .ldrsh _ _ _ => none
  | .ldrshi _ _ => none
  | .ldrshr _ _ => none
  | .str _ ra imm => some (.word, displacementAddr ra imm s)
  | .stri _ imm => some (.word, absoluteAddr imm)
  | .strr _ imm => some (.word, pcRelativeAddr imm s)
  | .strb _ ra imm => some (.byte, displacementAddr ra imm s)
  | .strbi _ imm => some (.byte, absoluteAddr imm)
  | .strbr _ imm => some (.byte, pcRelativeAddr imm s)
  | .strh _ ra imm => some (.half, displacementAddr ra imm s)
  | .strhi _ imm => some (.half, absoluteAddr imm)
  | .strhr _ imm => some (.half, pcRelativeAddr imm s)
  | .beq _ => none
  | .bne _ => none
  | .bcs _ => none
  | .bcc _ => none
  | .bmi _ => none
  | .bpl _ => none
  | .bvs _ => none
  | .bvc _ => none
  | .bhi _ => none
  | .bls _ => none
  | .bge _ => none
  | .blt _ => none
  | .bgt _ => none
  | .ble _ => none
  | .bal _ => none
  | .jmp _ _ => none
  | .jmpi _ => none
  | .jmpl _ _ _ => none
  | .jmpil _ _ => none

/-- Whether an address is one of the `n` addresses of an access, modulo 2^32 (spec/20_memory.md R43, R49). -/
def touches (addr : Word) (n : Nat) (a : Word) : Prop := ∃ i, i < n ∧ a = addr + BitVec.ofNat 32 i

/-- An access that no fault of R372 stops: aligned, or misaligned accesses are allowed (R47), and every byte in
`MEM_MAP` (R51). -/
def accessible (s : State) (w : Width) (addr : Word) : Prop :=
  (s.cfg.misalignedData = .allow ∨ addr.toNat % w.bytes = 0) ∧
    ∀ i, i < w.bytes → s.mapped (addr + BitVec.ofNat 32 i) = true

/-- A store that no fault stops: accessible, and no byte in immutable text (R58). -/
def writable (s : State) (w : Width) (addr : Word) : Prop :=
  accessible s w addr ∧
    ∀ i, i < w.bytes →
      s.cfg.fetchCoherence = .coherent ∨ s.inText (addr + BitVec.ofNat 32 i) = false

/-- The 4-byte value at an address as spec/20_memory.md R43 writes it out for either byte order. -/
def wordAt (s : State) (a : Word) : Nat :=
  match s.cfg.byteOrder with
  | .little =>
    (s.byteAt a).toNat + 2 ^ 8 * (s.byteAt (a + 1)).toNat + 2 ^ 16 * (s.byteAt (a + 2)).toNat +
      2 ^ 24 * (s.byteAt (a + 3)).toNat
  | .big =>
    (s.byteAt (a + 3)).toNat + 2 ^ 8 * (s.byteAt (a + 2)).toNat + 2 ^ 16 * (s.byteAt (a + 1)).toNat +
      2 ^ 24 * (s.byteAt a).toNat

/-- The 2-byte value at an address as R43 writes it out. -/
def halfAt (s : State) (a : Word) : Nat :=
  match s.cfg.byteOrder with
  | .little => (s.byteAt a).toNat + 2 ^ 8 * (s.byteAt (a + 1)).toNat
  | .big => (s.byteAt (a + 1)).toNat + 2 ^ 8 * (s.byteAt a).toNat

/-- Byte `i` of the `n` bytes that a store of `v` leaves at its address, as R44 writes it for either byte order. -/
def storedByte (order : ByteOrder) (n i : Nat) (v : Word) : Byte :=
  match order with
  | .little => v.extractLsb' (8 * i) 8
  | .big => v.extractLsb' (8 * (n - 1 - i)) 8

/-- What a store leaves (R44, spec/44_load_store.md R282): the low bytes of `v` at `ea`, every other byte of memory as
it was, `pc` at the next instruction, and registers, flags and configuration as they were. -/
def storeEffect (s t : State) (ea : Word) (n : Nat) (v : Word) : Prop :=
  (∀ i, i < n → t.byteAt (ea + BitVec.ofNat 32 i) = storedByte s.cfg.byteOrder n i v) ∧
  (∀ a, ¬ touches ea n a → t.byteAt a = s.byteAt a) ∧
  t.pc = s.pc + 4 ∧ t.x = s.x ∧ t.flags = s.flags ∧ t.cfg = s.cfg

/-- `k` steps from `s` lead to `t` with no fault and no end on the way (spec/70_reset_and_hazards.md R405). -/
def runsTo (k : Nat) (s t : State) : Prop := Sys2Proof.core.run k s = .next t

/-- A run that is final after `k` steps (R405). -/
def endsAfter (k : Nat) (s t : State) : Prop := runsTo k s t ∧ t.atEnd = true

/-- A run that faults at its step `k + 1` (R372, R405). -/
def faultsAfter (k : Nat) (s : State) (f : Fault) : Prop := ∃ t, runsTo k s t ∧ step t = .fault f

/-- No byte that is immutable text in `s` differs in `t` (R58). -/
def textKept (s t : State) : Prop := ∀ a : Word, s.textProtected a = true → t.byteAt a = s.byteAt a

end Sys2Proof.Machine
end

