-- ==== Sys2Proof/Certificates/Slice0/Obligations.lean ====
section
/-!
DEFINITION. The statements for the provers. A statement about every state holds for every value of every parameter,
since the state carries the configuration.
-/

open Sys2Proof Sys2Proof.Machine

/-- MOV, MOVI and MOVIZ complete and write rD (40_arith_basic.md 1.1 Move (R112, R113, R114, R115)). -/
def Obligations.MoveForms : Prop :=
  ∀ (rd rb : Reg) (imm : BitVec 20) (s : State),
    exec (.mov rd rb) s = .next ((s.setReg rd (s.reg rb)).setPc (s.pc + 4)) ∧
    exec (.movi rd imm) s = .next ((s.setReg rd (BitVec.ofInt 32 imm.toInt)).setPc (s.pc + 4)) ∧
    exec (.moviz rd imm) s = .next ((s.setReg rd (BitVec.ofNat 32 imm.toNat)).setPc (s.pc + 4))

/-- MOVH and MOVHL complete and write the upper bits of rD, the lower bits becoming 0 (40_arith_basic.md 1.4 Move High (R126, R127, R128)). -/
def Obligations.MoveHighForms : Prop :=
  ∀ (rd : Reg) (imm16 : BitVec 16) (imm20 : BitVec 20) (s : State),
    exec (.movh rd imm16) s = .next ((s.setReg rd (BitVec.ofNat 32 (imm16.toNat * 2 ^ 16))).setPc (s.pc + 4)) ∧
    exec (.movhl rd imm20) s = .next ((s.setReg rd (BitVec.ofNat 32 (imm20.toNat * 2 ^ 12))).setPc (s.pc + 4))

/-- ADD, ADDI, ADDS and ADDIS complete with the sum, and the S forms with the four flags of AddOp (R116). -/
def Obligations.AddForms : Prop :=
  ∀ (rd ra rb : Reg) (imm : BitVec 16) (s : State),
    let r : Word → Word → Word := fun a b => BitVec.ofNat 32 (a.toNat + b.toNat)
    let f : Word → Word → Flags := fun a b =>
      ⟨(r a b).getLsbD 31, decide (r a b = 0), decide (2 ^ 32 ≤ a.toNat + b.toNat), a.getLsbD 31 == b.getLsbD 31 && a.getLsbD 31 != (r a b).getLsbD 31⟩
    exec (.add rd ra rb) s = .next ((s.setReg rd (r (s.reg ra) (s.reg rb))).setPc (s.pc + 4)) ∧
    exec (.addi rd ra imm) s = .next ((s.setReg rd (r (s.reg ra) (imm.signExtend 32))).setPc (s.pc + 4)) ∧
    exec (.adds rd ra rb) s =
      .next (((s.setReg rd (r (s.reg ra) (s.reg rb))).setFlags (f (s.reg ra) (s.reg rb))).setPc (s.pc + 4)) ∧
    exec (.addis rd ra imm) s =
      .next (((s.setReg rd (r (s.reg ra) (imm.signExtend 32))).setFlags (f (s.reg ra) (imm.signExtend 32))).setPc (s.pc + 4))

/-- SUB, SUBI, SUBS and SUBIS complete with the difference, and the S forms with the four flags of SubOp (40_arith_basic.md 1.3 Subtract (R121, R122, R123, R124, R125)). -/
def Obligations.SubForms : Prop :=
  ∀ (rd ra rb : Reg) (imm : BitVec 16) (s : State),
    let r : Word → Word → Word := fun a b => a - b
    let f : Word → Word → Flags := fun a b =>
      ⟨(r a b).getLsbD 31, decide (r a b = 0), decide (b.toNat ≤ a.toNat), a.getLsbD 31 != b.getLsbD 31 && a.getLsbD 31 != (r a b).getLsbD 31⟩
    exec (.sub rd ra rb) s = .next ((s.setReg rd (r (s.reg ra) (s.reg rb))).setPc (s.pc + 4)) ∧
    exec (.subi rd ra imm) s = .next ((s.setReg rd (r (s.reg ra) (imm.signExtend 32))).setPc (s.pc + 4)) ∧
    exec (.subs rd ra rb) s =
      .next (((s.setReg rd (r (s.reg ra) (s.reg rb))).setFlags (f (s.reg ra) (s.reg rb))).setPc (s.pc + 4)) ∧
    exec (.subis rd ra imm) s =
      .next (((s.setReg rd (r (s.reg ra) (imm.signExtend 32))).setFlags (f (s.reg ra) (imm.signExtend 32))).setPc (s.pc + 4))

/-- CMP and CMPI change nothing but pc; CMPS and CMPIS write the flags of a subtraction, which the conditions read as comparisons (R129). -/
def Obligations.CompareForms : Prop :=
  ∀ (ra rb : Reg) (imm : BitVec 16) (s : State),
    let f : Word → Word → Flags := fun a b =>
      ⟨(a - b).getLsbD 31, decide (a - b = 0), decide (b.toNat ≤ a.toNat),
        a.getLsbD 31 != b.getLsbD 31 && a.getLsbD 31 != (a - b).getLsbD 31⟩
    exec (.cmp ra rb) s = .next (s.setPc (s.pc + 4)) ∧
    exec (.cmpi ra imm) s = .next (s.setPc (s.pc + 4)) ∧
    exec (.cmps ra rb) s = .next ((s.setFlags (f (s.reg ra) (s.reg rb))).setPc (s.pc + 4)) ∧
    exec (.cmpis ra imm) s = .next ((s.setFlags (f (s.reg ra) (imm.signExtend 32))).setPc (s.pc + 4)) ∧
    ∀ a b : Word,
      Cond.holds .or (f a b) .eq = decide (a = b) ∧
      Cond.holds .or (f a b) .ne = decide (a ≠ b) ∧
      Cond.holds .or (f a b) .cs = decide (b.toNat ≤ a.toNat) ∧
      Cond.holds .or (f a b) .cc = decide (a.toNat < b.toNat) ∧
      Cond.holds .or (f a b) .hi = decide (b.toNat < a.toNat) ∧
      Cond.holds .or (f a b) .ls = decide (a.toNat ≤ b.toNat) ∧
      Cond.holds .or (f a b) .ge = decide (b.toInt ≤ a.toInt) ∧
      Cond.holds .or (f a b) .lt = decide (a.toInt < b.toInt) ∧
      Cond.holds .or (f a b) .gt = decide (b.toInt < a.toInt) ∧
      Cond.holds .or (f a b) .le = decide (a.toInt ≤ b.toInt)

/-- MUL, MULI, MULS and MULIS complete with the low word, the same for both product readings; C and V come from the chosen product (R151). -/
def Obligations.MulForms : Prop :=
  ∀ (rd ra rb : Reg) (imm : BitVec 16) (s : State),
  let p : Word → Word → BitVec 64 := fun a b =>
      if s.cfg.mulFlagProduct = .signed then BitVec.ofInt 64 (a.toInt * b.toInt)
      else BitVec.ofNat 64 (a.toNat * b.toNat)
    let r : Word → Word → Word := fun a b => BitVec.ofNat 32 (a.toNat * b.toNat)
    let f : Word → Word → Flags := fun a b =>
      ⟨(r a b).getLsbD 31, decide (r a b = 0), (p a b).getLsbD 32, decide ((p a b).extractLsb' 32 32 ≠ 0)⟩
    exec (.mul rd ra rb) s = .next ((s.setReg rd (r (s.reg ra) (s.reg rb))).setPc (s.pc + 4)) ∧
    exec (.muli rd ra imm) s = .next ((s.setReg rd (r (s.reg ra) (imm.signExtend 32))).setPc (s.pc + 4)) ∧
    exec (.muls rd ra rb) s =
      .next (((s.setReg rd (r (s.reg ra) (s.reg rb))).setFlags (f (s.reg ra) (s.reg rb))).setPc (s.pc + 4)) ∧
    exec (.mulis rd ra imm) s =
      .next (((s.setReg rd (r (s.reg ra) (imm.signExtend 32))).setFlags (f (s.reg ra) (imm.signExtend 32))).setPc (s.pc + 4))

/-- MULH and MULHU in their four forms complete with the high word of the signed or unsigned product; the S forms clear C and V (R156, R161). -/
def Obligations.MulHighForms : Prop :=
  ∀ (rd ra rb : Reg) (imm : BitVec 16) (s : State),
  (let r : Word → Word → Word := fun a b => BitVec.ofInt 32 (a.toInt * b.toInt / 2 ^ 32)
    let f : Word → Word → Flags := fun a b =>
      ⟨(r a b).getLsbD 31, decide (r a b = 0), false, false⟩
    exec (.mulh rd ra rb) s = .next ((s.setReg rd (r (s.reg ra) (s.reg rb))).setPc (s.pc + 4)) ∧
    exec (.mulhi rd ra imm) s = .next ((s.setReg rd (r (s.reg ra) (imm.signExtend 32))).setPc (s.pc + 4)) ∧
    exec (.mulhs rd ra rb) s =
      .next (((s.setReg rd (r (s.reg ra) (s.reg rb))).setFlags (f (s.reg ra) (s.reg rb))).setPc (s.pc + 4)) ∧
    exec (.mulhis rd ra imm) s =
      .next (((s.setReg rd (r (s.reg ra) (imm.signExtend 32))).setFlags (f (s.reg ra) (imm.signExtend 32))).setPc (s.pc + 4))) ∧
    (let r : Word → Word → Word := fun a b => BitVec.ofNat 32 (a.toNat * b.toNat / 2 ^ 32)
    let f : Word → Word → Flags := fun a b =>
      ⟨(r a b).getLsbD 31, decide (r a b = 0), false, false⟩
    exec (.mulhu rd ra rb) s = .next ((s.setReg rd (r (s.reg ra) (s.reg rb))).setPc (s.pc + 4)) ∧
    exec (.mulhui rd ra imm) s = .next ((s.setReg rd (r (s.reg ra) (imm.setWidth 32))).setPc (s.pc + 4)) ∧
    exec (.mulhus rd ra rb) s =
      .next (((s.setReg rd (r (s.reg ra) (s.reg rb))).setFlags (f (s.reg ra) (s.reg rb))).setPc (s.pc + 4)) ∧
    exec (.mulhuis rd ra imm) s =
      .next (((s.setReg rd (r (s.reg ra) (imm.setWidth 32))).setFlags (f (s.reg ra) (imm.setWidth 32))).setPc (s.pc + 4)))

/-- MULFX, MULFXI, MULFXS and MULFXIS complete with bits 47:16 of the signed product; C says inexact, V says it does not fit 16.16 (R166, R167). -/
def Obligations.MulFixedForms : Prop :=
  ∀ (rd ra rb : Reg) (imm : BitVec 16) (s : State),
    let r : Word → Word → Word := fun a b => BitVec.ofInt 32 (a.toInt * b.toInt / 2 ^ 16)
    let f : Word → Word → Flags := fun a b =>
      ⟨(r a b).getLsbD 31, decide (r a b = 0), decide (a.toInt * b.toInt % 2 ^ 16 ≠ 0), decide (¬ (-(2 ^ 47) ≤ a.toInt * b.toInt ∧ a.toInt * b.toInt < 2 ^ 47))⟩
    exec (.mulfx rd ra rb) s = .next ((s.setReg rd (r (s.reg ra) (s.reg rb))).setPc (s.pc + 4)) ∧
    exec (.mulfxi rd ra imm) s = .next ((s.setReg rd (r (s.reg ra) (BitVec.ofInt 32 (imm.toInt * 256)))).setPc (s.pc + 4)) ∧
    exec (.mulfxs rd ra rb) s =
      .next (((s.setReg rd (r (s.reg ra) (s.reg rb))).setFlags (f (s.reg ra) (s.reg rb))).setPc (s.pc + 4)) ∧
    exec (.mulfxis rd ra imm) s =
      .next (((s.setReg rd (r (s.reg ra) (BitVec.ofInt 32 (imm.toInt * 256)))).setFlags (f (s.reg ra) (BitVec.ofInt 32 (imm.toInt * 256)))).setPc (s.pc + 4))

/-- DIV, DIVI, DIVS and DIVIS complete with the quotient rounded as SDIV_ROUNDING says, 0 for a divisor of 0 (R173). -/
def Obligations.SignedDivideForms : Prop :=
  ∀ (rd ra rb : Reg) (imm : BitVec 16) (s : State),
    let r : Word → Word → Word := fun a b => 
      if b = 0 then 0
      else if s.cfg.sdivRounding = .floor then BitVec.ofInt 32 (Int.fdiv a.toInt b.toInt)
      else BitVec.ofInt 32 (Int.tdiv a.toInt b.toInt)
    let f : Word → Word → Flags := fun a b =>
      ⟨(r a b).getLsbD 31, decide (r a b = 0), decide (b = 0), decide (a = 0x80000000 ∧ b = 0xFFFFFFFF)⟩
    exec (.div rd ra rb) s = .next ((s.setReg rd (r (s.reg ra) (s.reg rb))).setPc (s.pc + 4)) ∧
    exec (.divi rd ra imm) s = .next ((s.setReg rd (r (s.reg ra) (imm.signExtend 32))).setPc (s.pc + 4)) ∧
    exec (.divs rd ra rb) s =
      .next (((s.setReg rd (r (s.reg ra) (s.reg rb))).setFlags (f (s.reg ra) (s.reg rb))).setPc (s.pc + 4)) ∧
    exec (.divis rd ra imm) s =
      .next (((s.setReg rd (r (s.reg ra) (imm.signExtend 32))).setFlags (f (s.reg ra) (imm.signExtend 32))).setPc (s.pc + 4))

/-- MOD, MODI, MODS and MODIS complete with the remainder of the rounded quotient, 0 for a divisor of 0 (R183). -/
def Obligations.SignedModuloForms : Prop :=
  ∀ (rd ra rb : Reg) (imm : BitVec 16) (s : State),
    let r : Word → Word → Word := fun a b => 
      if b = 0 then 0
      else if s.cfg.sdivRounding = .floor then BitVec.ofInt 32 (Int.fmod a.toInt b.toInt)
      else BitVec.ofInt 32 (Int.tmod a.toInt b.toInt)
    let f : Word → Word → Flags := fun a b =>
      ⟨(r a b).getLsbD 31, decide (r a b = 0), decide (b = 0), false⟩
    exec (.mod rd ra rb) s = .next ((s.setReg rd (r (s.reg ra) (s.reg rb))).setPc (s.pc + 4)) ∧
    exec (.modi rd ra imm) s = .next ((s.setReg rd (r (s.reg ra) (imm.signExtend 32))).setPc (s.pc + 4)) ∧
    exec (.mods rd ra rb) s =
      .next (((s.setReg rd (r (s.reg ra) (s.reg rb))).setFlags (f (s.reg ra) (s.reg rb))).setPc (s.pc + 4)) ∧
    exec (.modis rd ra imm) s =
      .next (((s.setReg rd (r (s.reg ra) (imm.signExtend 32))).setFlags (f (s.reg ra) (imm.signExtend 32))).setPc (s.pc + 4))

/-- DIVU and MODU in their four forms complete with the unsigned quotient and remainder, 0 for a divisor of 0 (R178, R188). -/
def Obligations.UnsignedDivideForms : Prop :=
  ∀ (rd ra rb : Reg) (imm : BitVec 16) (s : State),
  (let r : Word → Word → Word := fun a b => if b = 0 then 0 else BitVec.ofNat 32 (a.toNat / b.toNat)
    let f : Word → Word → Flags := fun a b =>
      ⟨(r a b).getLsbD 31, decide (r a b = 0), decide (b = 0), false⟩
    exec (.divu rd ra rb) s = .next ((s.setReg rd (r (s.reg ra) (s.reg rb))).setPc (s.pc + 4)) ∧
    exec (.divui rd ra imm) s = .next ((s.setReg rd (r (s.reg ra) (imm.setWidth 32))).setPc (s.pc + 4)) ∧
    exec (.divus rd ra rb) s =
      .next (((s.setReg rd (r (s.reg ra) (s.reg rb))).setFlags (f (s.reg ra) (s.reg rb))).setPc (s.pc + 4)) ∧
    exec (.divuis rd ra imm) s =
      .next (((s.setReg rd (r (s.reg ra) (imm.setWidth 32))).setFlags (f (s.reg ra) (imm.setWidth 32))).setPc (s.pc + 4))) ∧
    (let r : Word → Word → Word := fun a b => if b = 0 then 0 else BitVec.ofNat 32 (a.toNat % b.toNat)
    let f : Word → Word → Flags := fun a b =>
      ⟨(r a b).getLsbD 31, decide (r a b = 0), decide (b = 0), false⟩
    exec (.modu rd ra rb) s = .next ((s.setReg rd (r (s.reg ra) (s.reg rb))).setPc (s.pc + 4)) ∧
    exec (.modui rd ra imm) s = .next ((s.setReg rd (r (s.reg ra) (imm.setWidth 32))).setPc (s.pc + 4)) ∧
    exec (.modus rd ra rb) s =
      .next (((s.setReg rd (r (s.reg ra) (s.reg rb))).setFlags (f (s.reg ra) (s.reg rb))).setPc (s.pc + 4)) ∧
    exec (.moduis rd ra imm) s =
      .next (((s.setReg rd (r (s.reg ra) (imm.setWidth 32))).setFlags (f (s.reg ra) (imm.setWidth 32))).setPc (s.pc + 4)))

/-- SHL, SHLI, SHLS and SHLIS complete with the left shift by the amount, for every amount and both parameters (R203). -/
def Obligations.ShiftLeftForms : Prop :=
  ∀ (rd ra rb : Reg) (imm : BitVec 16) (s : State),
  let n : Word → Nat := fun b => if s.cfg.shiftOver31 = .low5 then b.toNat % 32 else b.toNat
    let c0 : Bool := if s.cfg.shiftZeroCarry = .unchanged then s.flags.c else false
    let r : Word → Word → Word := fun a b => BitVec.ofNat 32 (a.toNat * 2 ^ n b)
    let f : Word → Word → Flags := fun a b =>
      ⟨(r a b).getLsbD 31, decide (r a b = 0), if n b = 0 then c0 else decide (n b ≤ 32) && a.getLsbD (32 - n b), false⟩
    exec (.shl rd ra rb) s = .next ((s.setReg rd (r (s.reg ra) (s.reg rb))).setPc (s.pc + 4)) ∧
    exec (.shli rd ra imm) s = .next ((s.setReg rd (r (s.reg ra) (imm.setWidth 32))).setPc (s.pc + 4)) ∧
    exec (.shls rd ra rb) s =
      .next (((s.setReg rd (r (s.reg ra) (s.reg rb))).setFlags (f (s.reg ra) (s.reg rb))).setPc (s.pc + 4)) ∧
    exec (.shlis rd ra imm) s =
      .next (((s.setReg rd (r (s.reg ra) (imm.setWidth 32))).setFlags (f (s.reg ra) (imm.setWidth 32))).setPc (s.pc + 4))

/-- ASR, ASRI, ASRS and ASRIS complete with the arithmetic right shift by the amount, for every amount and both parameters (R208). -/
def Obligations.ArithShiftRightForms : Prop :=
  ∀ (rd ra rb : Reg) (imm : BitVec 16) (s : State),
  let n : Word → Nat := fun b => if s.cfg.shiftOver31 = .low5 then b.toNat % 32 else b.toNat
    let c0 : Bool := if s.cfg.shiftZeroCarry = .unchanged then s.flags.c else false
    let r : Word → Word → Word := fun a b => BitVec.ofInt 32 (a.toInt / 2 ^ n b)
    let f : Word → Word → Flags := fun a b =>
      ⟨(r a b).getLsbD 31, decide (r a b = 0), if n b = 0 then c0 else a.getLsbD (min (n b - 1) 31), false⟩
    exec (.asr rd ra rb) s = .next ((s.setReg rd (r (s.reg ra) (s.reg rb))).setPc (s.pc + 4)) ∧
    exec (.asri rd ra imm) s = .next ((s.setReg rd (r (s.reg ra) (imm.setWidth 32))).setPc (s.pc + 4)) ∧
    exec (.asrs rd ra rb) s =
      .next (((s.setReg rd (r (s.reg ra) (s.reg rb))).setFlags (f (s.reg ra) (s.reg rb))).setPc (s.pc + 4)) ∧
    exec (.asris rd ra imm) s =
      .next (((s.setReg rd (r (s.reg ra) (imm.setWidth 32))).setFlags (f (s.reg ra) (imm.setWidth 32))).setPc (s.pc + 4))

/-- LSR, LSRI, LSRS and LSRIS complete with the logical right shift by the amount, for every amount and both parameters (R213). -/
def Obligations.LogicShiftRightForms : Prop :=
  ∀ (rd ra rb : Reg) (imm : BitVec 16) (s : State),
  let n : Word → Nat := fun b => if s.cfg.shiftOver31 = .low5 then b.toNat % 32 else b.toNat
    let c0 : Bool := if s.cfg.shiftZeroCarry = .unchanged then s.flags.c else false
    let r : Word → Word → Word := fun a b => BitVec.ofNat 32 (a.toNat / 2 ^ n b)
    let f : Word → Word → Flags := fun a b =>
      ⟨(r a b).getLsbD 31, decide (r a b = 0), if n b = 0 then c0 else a.getLsbD (n b - 1), false⟩
    exec (.lsr rd ra rb) s = .next ((s.setReg rd (r (s.reg ra) (s.reg rb))).setPc (s.pc + 4)) ∧
    exec (.lsri rd ra imm) s = .next ((s.setReg rd (r (s.reg ra) (imm.setWidth 32))).setPc (s.pc + 4)) ∧
    exec (.lsrs rd ra rb) s =
      .next (((s.setReg rd (r (s.reg ra) (s.reg rb))).setFlags (f (s.reg ra) (s.reg rb))).setPc (s.pc + 4)) ∧
    exec (.lsris rd ra imm) s =
      .next (((s.setReg rd (r (s.reg ra) (imm.setWidth 32))).setFlags (f (s.reg ra) (imm.setWidth 32))).setPc (s.pc + 4))

/-- ROL, ROLI, ROLS and ROLIS complete with the left rotation by the amount, for every amount and both parameters (R218). -/
def Obligations.RotateLeftForms : Prop :=
  ∀ (rd ra rb : Reg) (imm : BitVec 16) (s : State),
  let n : Word → Nat := fun b => if s.cfg.shiftOver31 = .low5 then b.toNat % 32 else b.toNat
    let c0 : Bool := if s.cfg.shiftZeroCarry = .unchanged then s.flags.c else false
    let r : Word → Word → Word := fun a b => a.rotateLeft (n b)
    let f : Word → Word → Flags := fun a b =>
      ⟨(r a b).getLsbD 31, decide (r a b = 0), if n b = 0 then c0 else (r a b).getLsbD 0, false⟩
    exec (.rol rd ra rb) s = .next ((s.setReg rd (r (s.reg ra) (s.reg rb))).setPc (s.pc + 4)) ∧
    exec (.roli rd ra imm) s = .next ((s.setReg rd (r (s.reg ra) (imm.setWidth 32))).setPc (s.pc + 4)) ∧
    exec (.rols rd ra rb) s =
      .next (((s.setReg rd (r (s.reg ra) (s.reg rb))).setFlags (f (s.reg ra) (s.reg rb))).setPc (s.pc + 4)) ∧
    exec (.rolis rd ra imm) s =
      .next (((s.setReg rd (r (s.reg ra) (imm.setWidth 32))).setFlags (f (s.reg ra) (imm.setWidth 32))).setPc (s.pc + 4))

/-- ROR, RORI, RORS and RORIS complete with the right rotation by the amount, for every amount and both parameters (R223). -/
def Obligations.RotateRightForms : Prop :=
  ∀ (rd ra rb : Reg) (imm : BitVec 16) (s : State),
  let n : Word → Nat := fun b => if s.cfg.shiftOver31 = .low5 then b.toNat % 32 else b.toNat
    let c0 : Bool := if s.cfg.shiftZeroCarry = .unchanged then s.flags.c else false
    let r : Word → Word → Word := fun a b => a.rotateRight (n b)
    let f : Word → Word → Flags := fun a b =>
      ⟨(r a b).getLsbD 31, decide (r a b = 0), if n b = 0 then c0 else (r a b).getLsbD 31, false⟩
    exec (.ror rd ra rb) s = .next ((s.setReg rd (r (s.reg ra) (s.reg rb))).setPc (s.pc + 4)) ∧
    exec (.rori rd ra imm) s = .next ((s.setReg rd (r (s.reg ra) (imm.setWidth 32))).setPc (s.pc + 4)) ∧
    exec (.rors rd ra rb) s =
      .next (((s.setReg rd (r (s.reg ra) (s.reg rb))).setFlags (f (s.reg ra) (s.reg rb))).setPc (s.pc + 4)) ∧
    exec (.roris rd ra imm) s =
      .next (((s.setReg rd (r (s.reg ra) (imm.setWidth 32))).setFlags (f (s.reg ra) (imm.setWidth 32))).setPc (s.pc + 4))

/-- AND, OR and XOR in their four forms complete bit by bit; the S forms clear C and V (R241, R246, R251). -/
def Obligations.LogicForms : Prop :=
  ∀ (rd ra rb : Reg) (imm : BitVec 16) (s : State),
  (let r : Word → Word → Word := fun a b => BitVec.ofFnLE (fun i : Fin 32 => and (a.getLsbD i) (b.getLsbD i))
    let f : Word → Word → Flags := fun a b =>
      ⟨(r a b).getLsbD 31, decide (r a b = 0), false, false⟩
    exec (.and rd ra rb) s = .next ((s.setReg rd (r (s.reg ra) (s.reg rb))).setPc (s.pc + 4)) ∧
    exec (.andi rd ra imm) s = .next ((s.setReg rd (r (s.reg ra) (imm.setWidth 32))).setPc (s.pc + 4)) ∧
    exec (.ands rd ra rb) s =
      .next (((s.setReg rd (r (s.reg ra) (s.reg rb))).setFlags (f (s.reg ra) (s.reg rb))).setPc (s.pc + 4)) ∧
    exec (.andis rd ra imm) s =
      .next (((s.setReg rd (r (s.reg ra) (imm.setWidth 32))).setFlags (f (s.reg ra) (imm.setWidth 32))).setPc (s.pc + 4))) ∧
    (let r : Word → Word → Word := fun a b => BitVec.ofFnLE (fun i : Fin 32 => or (a.getLsbD i) (b.getLsbD i))
    let f : Word → Word → Flags := fun a b =>
      ⟨(r a b).getLsbD 31, decide (r a b = 0), false, false⟩
    exec (.or rd ra rb) s = .next ((s.setReg rd (r (s.reg ra) (s.reg rb))).setPc (s.pc + 4)) ∧
    exec (.ori rd ra imm) s = .next ((s.setReg rd (r (s.reg ra) (imm.setWidth 32))).setPc (s.pc + 4)) ∧
    exec (.ors rd ra rb) s =
      .next (((s.setReg rd (r (s.reg ra) (s.reg rb))).setFlags (f (s.reg ra) (s.reg rb))).setPc (s.pc + 4)) ∧
    exec (.oris rd ra imm) s =
      .next (((s.setReg rd (r (s.reg ra) (imm.setWidth 32))).setFlags (f (s.reg ra) (imm.setWidth 32))).setPc (s.pc + 4))) ∧
    (let r : Word → Word → Word := fun a b => BitVec.ofFnLE (fun i : Fin 32 => xor (a.getLsbD i) (b.getLsbD i))
    let f : Word → Word → Flags := fun a b =>
      ⟨(r a b).getLsbD 31, decide (r a b = 0), false, false⟩
    exec (.xor rd ra rb) s = .next ((s.setReg rd (r (s.reg ra) (s.reg rb))).setPc (s.pc + 4)) ∧
    exec (.xori rd ra imm) s = .next ((s.setReg rd (r (s.reg ra) (imm.setWidth 32))).setPc (s.pc + 4)) ∧
    exec (.xors rd ra rb) s =
      .next (((s.setReg rd (r (s.reg ra) (s.reg rb))).setFlags (f (s.reg ra) (s.reg rb))).setPc (s.pc + 4)) ∧
    exec (.xoris rd ra imm) s =
      .next (((s.setReg rd (r (s.reg ra) (imm.setWidth 32))).setFlags (f (s.reg ra) (imm.setWidth 32))).setPc (s.pc + 4)))

/-- NOT, NOTI, NOTS and NOTIS complete with the complement of the register or of the zero-extended 20-bit immediate (R256). -/
def Obligations.NotForms : Prop :=
  ∀ (rd rb : Reg) (imm : BitVec 20) (s : State),
    let r : Word → Word := fun b => BitVec.ofNat 32 (0xFFFFFFFF - b.toNat)
    let f : Word → Flags := fun b => ⟨(r b).getLsbD 31, decide (r b = 0), false, false⟩
    exec (.not rd rb) s = .next ((s.setReg rd (r (s.reg rb))).setPc (s.pc + 4)) ∧
    exec (.noti rd imm) s = .next ((s.setReg rd (r (imm.setWidth 32))).setPc (s.pc + 4)) ∧
    exec (.nots rd rb) s =
      .next (((s.setReg rd (r (s.reg rb))).setFlags (f (s.reg rb))).setPc (s.pc + 4)) ∧
    exec (.notis rd imm) s =
      .next (((s.setReg rd (r (imm.setWidth 32))).setFlags (f (imm.setWidth 32))).setPc (s.pc + 4)) ∧
    (r (imm.setWidth 32)).toInt = -((imm.toNat : Int) + 1)

/-- BCHK and BCHKI change nothing but pc; BCHKS and BCHKIS write the flags of an AND, on which the conditions test bits (R261). -/
def Obligations.BitCheckForms : Prop :=
  ∀ (ra rb : Reg) (imm : BitVec 16) (s : State),
    let f : Word → Word → Flags := fun a b => ⟨(a &&& b).getLsbD 31, decide (a &&& b = 0), false, false⟩
    exec (.bchk ra rb) s = .next (s.setPc (s.pc + 4)) ∧
    exec (.bchki ra imm) s = .next (s.setPc (s.pc + 4)) ∧
    exec (.bchks ra rb) s = .next ((s.setFlags (f (s.reg ra) (s.reg rb))).setPc (s.pc + 4)) ∧
    exec (.bchkis ra imm) s = .next ((s.setFlags (f (s.reg ra) (imm.setWidth 32))).setPc (s.pc + 4)) ∧
    ∀ (a b : Word) (j : CondLsLe),
      (Cond.holds j (f a b) .eq = true ↔ ∀ i, i < 32 → (a.getLsbD i && b.getLsbD i) = false) ∧
      (Cond.holds j (f a b) .ne = true ↔ ∃ i, i < 32 ∧ (a.getLsbD i && b.getLsbD i) = true) ∧
      Cond.holds j (f a b) .mi = (a.getLsbD 31 && b.getLsbD 31) ∧
      Cond.holds j (f a b) .cs = false ∧ Cond.holds j (f a b) .hi = false ∧
      Cond.holds j (f a b) .vs = false ∧ Cond.holds j (f a b) .cc = true ∧ Cond.holds j (f a b) .vc = true ∧
      Cond.holds .or (f a b) .ls = true ∧ Cond.holds .and (f a b) .ls = (f a b).z

/-- LDR, LDRI and LDRR complete with the word at their effective address (44_load_store.md (R280, R281, R283, R284, R285), 20_memory.md (R43)). -/
def Obligations.LoadWordForms : Prop :=
  ∀ (rd ra : Reg) (imm16 : BitVec 16) (imm20 : BitVec 20) (s : State),
    (accessible s .word (s.reg ra + imm16.signExtend 32) →
      exec (.ldr rd ra imm16) s = .next ((s.setReg rd (BitVec.ofNat 32 (wordAt s (s.reg ra + imm16.signExtend 32)))).setPc (s.pc + 4))) ∧
    (accessible s .word (imm20.setWidth 32) →
      exec (.ldri rd imm20) s = .next ((s.setReg rd (BitVec.ofNat 32 (wordAt s (imm20.setWidth 32)))).setPc (s.pc + 4))) ∧
    (accessible s .word (s.pc + imm20.signExtend 32) →
      exec (.ldrr rd imm20) s = .next ((s.setReg rd (BitVec.ofNat 32 (wordAt s (s.pc + imm20.signExtend 32)))).setPc (s.pc + 4)))

/-- LDRB and LDRSB in their three modes complete with the byte at their effective address, zero- or sign-extended (44_load_store.md (R280, R281, R286, R287, R288, R289, R290, R291), 20_memory.md (R43, R60)). -/
def Obligations.LoadByteForms : Prop :=
  ∀ (rd ra : Reg) (imm16 : BitVec 16) (imm20 : BitVec 20) (s : State),
    (accessible s .byte (s.reg ra + imm16.signExtend 32) →
      exec (.ldrb rd ra imm16) s = .next ((s.setReg rd (BitVec.ofNat 32 (s.byteAt (s.reg ra + imm16.signExtend 32)).toNat)).setPc (s.pc + 4))) ∧
    (accessible s .byte (imm20.setWidth 32) →
      exec (.ldrbi rd imm20) s = .next ((s.setReg rd (BitVec.ofNat 32 (s.byteAt (imm20.setWidth 32)).toNat)).setPc (s.pc + 4))) ∧
    (accessible s .byte (s.pc + imm20.signExtend 32) →
      exec (.ldrbr rd imm20) s = .next ((s.setReg rd (BitVec.ofNat 32 (s.byteAt (s.pc + imm20.signExtend 32)).toNat)).setPc (s.pc + 4))) ∧
    (accessible s .byte (s.reg ra + imm16.signExtend 32) →
      exec (.ldrsb rd ra imm16) s = .next ((s.setReg rd (BitVec.ofInt 32 (s.byteAt (s.reg ra + imm16.signExtend 32)).toInt)).setPc (s.pc + 4))) ∧
    (accessible s .byte (imm20.setWidth 32) →
      exec (.ldrsbi rd imm20) s = .next ((s.setReg rd (BitVec.ofInt 32 (s.byteAt (imm20.setWidth 32)).toInt)).setPc (s.pc + 4))) ∧
    (accessible s .byte (s.pc + imm20.signExtend 32) →
      exec (.ldrsbr rd imm20) s = .next ((s.setReg rd (BitVec.ofInt 32 (s.byteAt (s.pc + imm20.signExtend 32)).toInt)).setPc (s.pc + 4)))

/-- LDRH and LDRSH in their three modes complete with the halfword at their effective address, zero- or sign-extended (44_load_store.md (R280, R281, R292, R293, R294, R295, R296, R297), 20_memory.md (R43, R60)). -/
def Obligations.LoadHalfForms : Prop :=
  ∀ (rd ra : Reg) (imm16 : BitVec 16) (imm20 : BitVec 20) (s : State),
    (accessible s .half (s.reg ra + imm16.signExtend 32) →
      exec (.ldrh rd ra imm16) s = .next ((s.setReg rd (BitVec.ofNat 32 (halfAt s (s.reg ra + imm16.signExtend 32)))).setPc (s.pc + 4))) ∧
    (accessible s .half (imm20.setWidth 32) →
      exec (.ldrhi rd imm20) s = .next ((s.setReg rd (BitVec.ofNat 32 (halfAt s (imm20.setWidth 32)))).setPc (s.pc + 4))) ∧
    (accessible s .half (s.pc + imm20.signExtend 32) →
      exec (.ldrhr rd imm20) s = .next ((s.setReg rd (BitVec.ofNat 32 (halfAt s (s.pc + imm20.signExtend 32)))).setPc (s.pc + 4))) ∧
    (accessible s .half (s.reg ra + imm16.signExtend 32) →
      exec (.ldrsh rd ra imm16) s = .next ((s.setReg rd (BitVec.ofInt 32 (BitVec.ofNat 16 (halfAt s (s.reg ra + imm16.signExtend 32))).toInt)).setPc (s.pc + 4))) ∧
    (accessible s .half (imm20.setWidth 32) →
      exec (.ldrshi rd imm20) s = .next ((s.setReg rd (BitVec.ofInt 32 (BitVec.ofNat 16 (halfAt s (imm20.setWidth 32))).toInt)).setPc (s.pc + 4))) ∧
    (accessible s .half (s.pc + imm20.signExtend 32) →
      exec (.ldrshr rd imm20) s = .next ((s.setReg rd (BitVec.ofInt 32 (BitVec.ofNat 16 (halfAt s (s.pc + imm20.signExtend 32))).toInt)).setPc (s.pc + 4)))

/-- STR, STRI and STRR complete: all four bytes of x[rB] go to their effective address and no other byte changes (44_load_store.md (R280, R282, R298, R299, R300), 20_memory.md (R44)). -/
def Obligations.StoreWordForms : Prop :=
  ∀ (rb ra : Reg) (imm16 : BitVec 16) (imm20 : BitVec 20) (s : State),
    (writable s .word (s.reg ra + imm16.signExtend 32) →
      ∃ t, exec (.str rb ra imm16) s = .next t ∧ storeEffect s t (s.reg ra + imm16.signExtend 32) 4 (s.reg rb)) ∧
    (writable s .word (imm20.setWidth 32) →
      ∃ t, exec (.stri rb imm20) s = .next t ∧ storeEffect s t (imm20.setWidth 32) 4 (s.reg rb)) ∧
    (writable s .word (s.pc + imm20.signExtend 32) →
      ∃ t, exec (.strr rb imm20) s = .next t ∧ storeEffect s t (s.pc + imm20.signExtend 32) 4 (s.reg rb))

/-- STRB, STRBI and STRBR complete: the low byte of x[rB] go to their effective address and no other byte changes (44_load_store.md (R280, R282, R301, R302, R303), 20_memory.md (R44)). -/
def Obligations.StoreByteForms : Prop :=
  ∀ (rb ra : Reg) (imm16 : BitVec 16) (imm20 : BitVec 20) (s : State),
    (writable s .byte (s.reg ra + imm16.signExtend 32) →
      ∃ t, exec (.strb rb ra imm16) s = .next t ∧ storeEffect s t (s.reg ra + imm16.signExtend 32) 1 (s.reg rb)) ∧
    (writable s .byte (imm20.setWidth 32) →
      ∃ t, exec (.strbi rb imm20) s = .next t ∧ storeEffect s t (imm20.setWidth 32) 1 (s.reg rb)) ∧
    (writable s .byte (s.pc + imm20.signExtend 32) →
      ∃ t, exec (.strbr rb imm20) s = .next t ∧ storeEffect s t (s.pc + imm20.signExtend 32) 1 (s.reg rb))

/-- STRH, STRHI and STRHR complete: the low two bytes of x[rB] go to their effective address and no other byte changes (44_load_store.md (R280, R282, R304, R305, R306), 20_memory.md (R44)). -/
def Obligations.StoreHalfForms : Prop :=
  ∀ (rb ra : Reg) (imm16 : BitVec 16) (imm20 : BitVec 20) (s : State),
    (writable s .half (s.reg ra + imm16.signExtend 32) →
      ∃ t, exec (.strh rb ra imm16) s = .next t ∧ storeEffect s t (s.reg ra + imm16.signExtend 32) 2 (s.reg rb)) ∧
    (writable s .half (imm20.setWidth 32) →
      ∃ t, exec (.strhi rb imm20) s = .next t ∧ storeEffect s t (imm20.setWidth 32) 2 (s.reg rb)) ∧
    (writable s .half (s.pc + imm20.signExtend 32) →
      ∃ t, exec (.strhr rb imm20) s = .next t ∧ storeEffect s t (s.pc + imm20.signExtend 32) 2 (s.reg rb))

/-- Each of the fifteen branches completes: to pc + offset if its condition holds, else to pc + 4; its word; 1111 is reserved (R320, R321). -/
def Obligations.BranchForms : Prop :=
  ∀ (imm : BitVec 22) (s : State),
    let f := s.flags
    let and : Bool := decide (s.cfg.condLsLe = .and)
    let go : Bool → Host.Outcome State Fault Refusal := fun b =>
      .next (s.setPc (if b = true then s.pc + imm.signExtend 32 else s.pc + 4))
    let word : Word → Word := fun cond => 0xC8000000 ||| (imm.setWidth 32 <<< 4) ||| cond
    (exec (.beq imm) s = go (f.z) ∧ encode (.beq imm) = word 0) ∧
    (exec (.bne imm) s = go (!f.z) ∧ encode (.bne imm) = word 1) ∧
    (exec (.bcs imm) s = go (f.c) ∧ encode (.bcs imm) = word 2) ∧
    (exec (.bcc imm) s = go (!f.c) ∧ encode (.bcc imm) = word 3) ∧
    (exec (.bmi imm) s = go (f.n) ∧ encode (.bmi imm) = word 4) ∧
    (exec (.bpl imm) s = go (!f.n) ∧ encode (.bpl imm) = word 5) ∧
    (exec (.bvs imm) s = go (f.v) ∧ encode (.bvs imm) = word 6) ∧
    (exec (.bvc imm) s = go (!f.v) ∧ encode (.bvc imm) = word 7) ∧
    (exec (.bhi imm) s = go (f.c && !f.z) ∧ encode (.bhi imm) = word 8) ∧
    (exec (.bls imm) s = go (if and then !f.c && f.z else !f.c || f.z) ∧ encode (.bls imm) = word 9) ∧
    (exec (.bge imm) s = go (f.n == f.v) ∧ encode (.bge imm) = word 10) ∧
    (exec (.blt imm) s = go (f.n != f.v) ∧ encode (.blt imm) = word 11) ∧
    (exec (.bgt imm) s = go (!f.z && f.n == f.v) ∧ encode (.bgt imm) = word 12) ∧
    (exec (.ble imm) s = go (if and then f.z && f.n != f.v else f.z || f.n != f.v) ∧ encode (.ble imm) = word 13) ∧
    (exec (.bal imm) s = go (true) ∧ encode (.bal imm) = word 14) ∧
    decode (word 15) = .reservedEncoding ∧
    ∀ g : Flags,
      Cond.holds .or g .ne = !Cond.holds .or g .eq ∧ Cond.holds .or g .cc = !Cond.holds .or g .cs ∧
      Cond.holds .or g .pl = !Cond.holds .or g .mi ∧ Cond.holds .or g .vc = !Cond.holds .or g .vs ∧
      Cond.holds .or g .ls = !Cond.holds .or g .hi ∧ Cond.holds .or g .lt = !Cond.holds .or g .ge ∧
      Cond.holds .or g .le = !Cond.holds .or g .gt

/-- JMP, JMPI, JMPL and JMPIL complete at their target; the link forms write pc + 4 to rD and read the old rA (45_control.md 5.2 Jump (R322, R323, R324, R325, R326), 00_scope.md (R13)). -/
def Obligations.JumpForms : Prop :=
  ∀ (rd ra : Reg) (imm16 : BitVec 16) (imm20 : BitVec 20) (imm24 : BitVec 24) (s : State),
    exec (.jmp ra imm16) s = .next (s.setPc (s.reg ra + BitVec.ofNat 32 imm16.toNat)) ∧
    exec (.jmpi imm24) s = .next (s.setPc (BitVec.ofNat 32 imm24.toNat)) ∧
    exec (.jmpl rd ra imm16) s =
      .next ((s.setReg rd (s.pc + 4)).setPc (s.reg ra + BitVec.ofNat 32 imm16.toNat)) ∧
    exec (.jmpil rd imm20) s = .next ((s.setReg rd (s.pc + 4)).setPc (BitVec.ofNat 32 imm20.toNat))

/-- A step of a state that is not final runs the instruction its word at pc decodes to (00_scope.md (R13), 70_reset_and_hazards.md (R401), 20_memory.md (R46), 30_encoding.md (R92)). -/
def Obligations.StepRunsDecodedInstruction : Prop :=
  ∀ (s : State) (i : Instr),
    s.cfg.endPc ≠ some s.pc → s.pc.toNat % 4 = 0 →
    (∀ k, k < 4 → s.mapped (s.pc + BitVec.ofNat 32 k) = true) →
    (s.cfg.resetPc = some s.pc → s.inText s.pc = true) →
    decode (BitVec.ofNat 32 (wordAt s s.pc)) = .instr i →
    step s = exec i s

/-- The first fault that applies is the one recorded, fetch before decode before access; the address recorded is the model's choice (log entry 17) (60_exceptions.md (R372, R375), 70_reset_and_hazards.md (R401)). -/
def Obligations.FaultOrderOfAStep : Prop :=
  ∀ s : State, s.cfg.endPc ≠ some s.pc →
    let unmapped : Word → Nat → Prop := fun a n => ∃ k, k < n ∧ s.mapped (a + BitVec.ofNat 32 k) = false
    let misaligned : Word → Width → Prop := fun a w => s.cfg.misalignedData = .refuse ∧ a.toNat % w.bytes ≠ 0
    let text : Word → Nat → Prop := fun a n =>
      s.cfg.fetchCoherence = .immutable ∧ ∃ k, k < n ∧ s.inText (a + BitVec.ofNat 32 k) = true
    let d := decode (BitVec.ofNat 32 (wordAt s s.pc))
    let unfetchable : Prop := unmapped s.pc 4 ∨ (s.cfg.resetPc = some s.pc ∧ s.inText s.pc = false)
    (s.pc.toNat % 4 ≠ 0 → step s = .fault (.misalignedFetch s.pc)) ∧
    (s.pc.toNat % 4 = 0 → unfetchable → step s = .fault (.unmappedAccess s.pc s.pc)) ∧
    (s.pc.toNat % 4 = 0 → ¬ unfetchable → d = .illegalInstruction →
      step s = .fault (.illegalInstruction s.pc)) ∧
    (s.pc.toNat % 4 = 0 → ¬ unfetchable → d = .reservedEncoding →
      step s = .fault (.reservedEncoding s.pc)) ∧
    ∀ (i : Instr) (w : Width) (ea : Word),
      s.pc.toNat % 4 = 0 → ¬ unfetchable → d = .instr i →
      (loadAccess s i = some (w, ea) ∨ storeAccess s i = some (w, ea) →
        misaligned ea w → step s = .fault (.misalignedData s.pc ea)) ∧
      (loadAccess s i = some (w, ea) ∨ storeAccess s i = some (w, ea) →
        ¬ misaligned ea w → unmapped ea w.bytes → step s = .fault (.unmappedAccess s.pc ea)) ∧
      (storeAccess s i = some (w, ea) →
        ¬ misaligned ea w → ¬ unmapped ea w.bytes → text ea w.bytes → step s = .fault (.textWrite s.pc ea))

/-- A state is final exactly at END_PC; a run ends, faults or steps forever, exactly one, uniquely; the refusal runEnded is the model's choice (log entry 19) (70_reset_and_hazards.md (R405), 60_exceptions.md (R372)). -/
def Obligations.RunOutcomes : Prop :=
  (∀ s : State, s.atEnd = true ↔ s.cfg.endPc = some s.pc) ∧
  (∀ s : State, s.atEnd = true ↔ step s = .refused .runEnded) ∧
  ∀ s : State,
    ((∃ k t, endsAfter k s t) ∨ (∃ k f, faultsAfter k s f) ∨ (∀ k, ∃ t, runsTo k s t ∧ t.atEnd = false)) ∧
    (∀ k t j f, endsAfter k s t → ¬ faultsAfter j s f) ∧
    (∀ k t, endsAfter k s t → ¬ ∀ j, ∃ u, runsTo j s u) ∧
    (∀ k f, faultsAfter k s f → ¬ ∀ j, ∃ u, runsTo j s u) ∧
    (∀ k j t u, endsAfter k s t → endsAfter j s u → k = j ∧ t = u) ∧
    (∀ k j f g, faultsAfter k s f → faultsAfter j s g → k = j ∧ f = g)

/-- The example words of the eleven formats decode to the instructions they stand for (30_encoding.md 2. Formats (R71, R72, R73, R74, R75, R76, R77, R78, R79, R80, R81)). -/
def Obligations.ExampleWordsDecode : Prop :=
  decode 0x04012000 = .instr (.add 0 1 2) ∧
  decode 0x07010006 = .instr (.addis 0 1 6) ∧
  decode 0x00002000 = .instr (.mov 0 2) ∧
  decode 0x90001000 = .instr (.not 0 1) ∧
  decode 0xCF600048 = .instr (.jmpil 6 72) ∧
  decode 0x0C00003B = .instr (.movh 0 59) ∧
  decode 0x11012000 = .instr (.cmps 1 2) ∧
  decode 0x13010009 = .instr (.cmpis 1 9) ∧
  decode 0xB4012136 = .instr (.str 2 1 310) ∧
  decode 0xB50030C8 = .instr (.strr 3 200) ∧
  decode 0xCBFFFDC0 = .instr (.beq (BitVec.ofInt 22 (-36))) ∧
  decode 0xCE000048 = .instr (.jmpi 72)

/-- The model's own reset state: every register, flag and byte 0, pc 0 (the spec gives no value) (10_state.md (R35), 70_reset_and_hazards.md (R400, R401)). -/
def Obligations.ResetValuesOfTheModel : Prop :=
  (∀ r : Reg, State.reset.reg r = 0) ∧
  State.reset.flags = ⟨false, false, false, false⟩ ∧
  State.reset.pc = 0 ∧
  (∀ a : Word, State.reset.byteAt a = 0) ∧
  State.reset.mem.wf = true ∧
  State.reset.cfg = Config.default

/-- Every step keeps the canonical form of the memory: rising addresses below 2^32 and no blank byte listed (20_memory.md (R44), 10_state.md (R29)). -/
def Obligations.StepKeepsMemoryCanonical : Prop :=
  ∀ s t : State, s.mem.wf = true → step s = .next t → t.mem.wf = true

/-- No run changes a parameter: the configuration is the same after any number of steps (10_state.md (R34), 00_scope.md (R6), 20_memory.md (R45)). -/
def Obligations.RunKeepsConfiguration : Prop :=
  ∀ (k : Nat) (s t : State), runsTo k s t → t.cfg = s.cfg

/-- Immutable text never changes over a run and a store to it faults, recording an address of the model's choice (log entry 17); a fetch reads current memory (20_memory.md (R44, R46, R58)). -/
def Obligations.ProgramTextIsImmutable : Prop :=
  (∀ (s : State) (i : Instr) (w : Width) (ea : Word), s.cfg.fetchCoherence = .immutable →
    storeAccess s i = some (w, ea) → accessible s w ea →
    (∃ k, k < w.bytes ∧ s.inText (ea + BitVec.ofNat 32 k) = true) →
    exec i s = .fault (.textWrite s.pc ea)) ∧
  (∀ (k : Nat) (s t : State), runsTo k s t → textKept s t) ∧
  (∀ (s : State) (pc a : Word), s.cfg.fetchCoherence = .coherent → step s ≠ .fault (.textWrite pc a)) ∧
  (∀ (s : State) (w : Word), s.fetch = .ok w → w = BitVec.ofNat 32 (wordAt s s.pc))

/-- Decoding the word of an instruction gives the instruction back, for all 132 instructions and all operands (30_encoding.md (R70, R71, R72, R73, R74, R75, R76, R77, R78, R79, R80, R81)). -/
def Obligations.DecodeOfEncode : Prop :=
  ∀ i : Instr, decode (encode i) = .instr i

/-- A word that decodes to an instruction is exactly the encoding of that instruction: no bit of it is ignored (30_encoding.md (R87, R88, R90, R92)). -/
def Obligations.EncodeOfDecode : Prop :=
  ∀ (w : Word) (i : Instr), decode w = .instr i → encode i = w

/-- The decoder answers what the 132 mask-and-match rows of the opcode table say, for every 32-bit word (R92). -/
def Obligations.DecoderAgreesWithOpcodeTable : Prop :=
  ∀ w : Word,
    match decode w with
    | .instr i => ∃ row, opcodeRows.filter (fun r => r.accepts w) = [row] ∧ row.mnemonic = i.mnemonic
    | .reservedEncoding =>
      opcodeRows.filter (fun r => r.accepts w) = [] ∧ ∃ op : Opcode, op.bits = w.extractLsb' 26 6
    | .illegalInstruction =>
      opcodeRows.filter (fun r => r.accepts w) = [] ∧ ∀ op : Opcode, op.bits ≠ w.extractLsb' 26 6

/-- Reserved mode bits and condition 1111 are fault ReservedEncoding, and the 31 unassigned opcodes fault IllegalInstruction (R88, R89, R90). -/
def Obligations.ReservedWordsFault : Prop :=
  (∀ (s : State) (w : Word), s.atEnd = false → s.fetch = .ok w →
    let op := (w.extractLsb' 26 6).toNat
    (op = 0x00 ∧ w.getLsbD 25 = false ∧ w.getLsbD 24 = true → step s = .fault (.reservedEncoding s.pc)) ∧
    (op = 0x03 ∧ w.getLsbD 24 = true → step s = .fault (.reservedEncoding s.pc)) ∧
    (0x28 ≤ op ∧ op ≤ 0x2F ∧ w.getLsbD 25 = true ∧ w.getLsbD 24 = true →
      step s = .fault (.reservedEncoding s.pc)) ∧
    (op = 0x32 ∧ w.extractLsb' 0 4 = 0xF → step s = .fault (.reservedEncoding s.pc)) ∧
    (0x0D ≤ op ∧ op ≤ 0x17 ∨ 0x1D ≤ op ∧ op ≤ 0x20 ∨ op = 0x26 ∨ op = 0x27 ∨ op = 0x30 ∨ op = 0x31 ∨ 0x34 ≤ op →
      step s = .fault (.illegalInstruction s.pc))) ∧
  ((List.range 64).filter (fun n => (Opcode.ofBits (BitVec.ofNat 6 n)).isNone)).length = 31

/-- CMP and BCHK with S = 0 and MOV R0, R0 change nothing but pc; 0x00000000 is MOV R0, R0; 0xFFFFFFFF is illegal (R91). -/
def Obligations.NoOperations : Prop :=
  (∀ (r ra rb : Reg) (imm : BitVec 16) (s : State),
    exec (.cmp ra rb) s = .next { s with pc := s.pc + 4 } ∧
    exec (.cmpi ra imm) s = .next { s with pc := s.pc + 4 } ∧
    exec (.bchk ra rb) s = .next { s with pc := s.pc + 4 } ∧
    exec (.bchki ra imm) s = .next { s with pc := s.pc + 4 } ∧
    exec (.mov r r) s = .next { s with pc := s.pc + 4 }) ∧
  decode 0x00000000 = .instr (.mov 0 0) ∧
  decode 0xFFFFFFFF = .illegalInstruction

/-- No word decodes to one of the seven system instructions and the assembler rejects their mnemonics (R96). -/
def Obligations.SystemMnemonicsHaveNoEncoding : Prop :=
  ∀ m ∈ ["SYSCALL", "RETEXC", "SETINT", "CLRINT", "WAITINT", "LDRSYS", "STRSYS"],
    (∀ ops : List Operand,
      AsmLine.check ⟨m, ops⟩ = some .systemInstruction ∧ assemble ⟨m, ops⟩ = none) ∧
    (∀ (w : Word) (i : Instr), decode w = .instr i → i.mnemonic ≠ m) ∧
    rowOf m = none

/-- Assembling an instruction's line gives its encoding; every line is accepted but a branch to an offset that is no multiple of 4 (model's choice, log entry 26) (30_encoding.md (R92, R93, R94, R98), 45_control.md (R321)). -/
def Obligations.AssemblerAgreesWithEncoder : Prop :=
  (∀ i : Instr,
    (branchCond i = none → i.asm.wf = true) ∧
    (i.asm.wf = true → assemble i.asm = some (encode i))) ∧
  ∀ imm : BitVec 22,
    ∀ mk ∈ [Instr.beq, Instr.bne, Instr.bcs, Instr.bcc, Instr.bmi, Instr.bpl, Instr.bvs, Instr.bvc, Instr.bhi,
        Instr.bls, Instr.bge, Instr.blt, Instr.bgt, Instr.ble, Instr.bal],
      ((mk imm).asm.wf = true ↔ imm.toInt % 4 = 0)

/-- A line the checks accept assembles to a word that decodes to an instruction of its mnemonic, and a refused line to nothing (30_encoding.md (R93, R94, R98), 92_eei_decisions.md (D27, D28)). -/
def Obligations.AcceptedLinesAssemble : Prop :=
  ∀ l : AsmLine,
    (l.wf = true → ∃ w i, assemble l = some w ∧ decode w = .instr i ∧
      i.mnemonic = AsmLine.canonicalMnemonic l.mnemonic) ∧
    (l.wf = false → assemble l = none)

/-- A sign-extended N-bit field accepts -2^(N-1) to 2^N - 1, a zero-extended one 0 to 2^N - 1, and nothing else (30_encoding.md (R98), 92_eei_decisions.md (D28)). -/
def Obligations.ImmediateRanges : Prop :=
  ∀ (n : Nat) (v : Int),
    (OperandKind.check (.signed n) (.imm v) = none ↔ -(2 ^ (n - 1) : Int) ≤ v ∧ v < 2 ^ n) ∧
    (OperandKind.check (.unsigned n) (.imm v) = none ↔ 0 ≤ v ∧ v < 2 ^ n) ∧
    (¬ (-(2 ^ (n - 1) : Int) ≤ v ∧ v < 2 ^ n) →
      OperandKind.check (.signed n) (.imm v) = some .immediateOutOfRange) ∧
    (¬ (0 ≤ v ∧ v < 2 ^ n) → OperandKind.check (.unsigned n) (.imm v) = some .immediateOutOfRange)

/-- Only the S forms of the 21 opcodes change a flag, and their N and Z are bit 31 and zero-ness of the value written to rD (10_state.md (R24, R25), 40_arith_basic.md (R111)). -/
def Obligations.FlagsWrittenOnlyBySForms : Prop :=
  ∀ (i : Instr) (s t : State), exec i s = .next t →
    (setsFlags i = false → t.flags = s.flags) ∧
    (∀ rd, setsFlags i = true → destination i = some rd →
      t.flags.n = (t.reg rd).getLsbD 31 ∧ t.flags.z = decide (t.reg rd = 0))

/-- No instruction changes a general register other than the one its rD field names; no register is implicit or hard-wired (10_state.md (R20, R21, R22, R23), 44_load_store.md (R280, R282)). -/
def Obligations.OnlyTheDestinationChanges : Prop :=
  ∀ (i : Instr) (s t : State) (r : Reg), exec i s = .next t → destination i ≠ some r → t.reg r = s.reg r

/-- Memory changes only at the bytes a store writes: the effective address of the nine store forms and its width (20_memory.md (R44, R52), 44_load_store.md (R281, R282)). -/
def Obligations.OnlyStoresChangeMemory : Prop :=
  ∀ (i : Instr) (s t : State), exec i s = .next t →
    (storeAccess s i = none → t.mem = s.mem) ∧
    (∀ w ea, storeAccess s i = some (w, ea) → ∀ a, ¬ touches ea w.bytes a → t.byteAt a = s.byteAt a)

/-- Every instruction ends at pc + 4 modulo 2^32 except a taken branch and the four jumps; a misaligned pc faults only at the next fetch (R28). -/
def Obligations.ProgramCounterAdvances : Prop :=
  (∀ (i : Instr) (s t : State), exec i s = .next t → t.pc = (jumpTarget s i).getD (s.pc + 4)) ∧
  (∀ (s : State) (ra : Reg) (v : Word), exec (.jmp ra 0) (s.setReg ra v) = .next ((s.setReg ra v).setPc v)) ∧
  (∀ s : State, s.atEnd = false → s.pc.toNat % 4 ≠ 0 → step s = .fault (.misalignedFetch s.pc))

/-- Every instruction that accesses no data memory completes from every state, and a load or store completes exactly when its access does (60_exceptions.md (R370, R371)). -/
def Obligations.DefinedInstructionsAreTotal : Prop :=
  ∀ (i : Instr) (s : State),
    (loadAccess s i = none → storeAccess s i = none → ∃ t, exec i s = .next t) ∧
    (∀ w ea, loadAccess s i = some (w, ea) → ((∃ t, exec i s = .next t) ↔ accessible s w ea)) ∧
    (∀ w ea, storeAccess s i = some (w, ea) → ((∃ t, exec i s = .next t) ↔ writable s w ea))

/-- No instruction but a branch depends on the flags, a flag-setting shift by 0 under SHIFT_ZERO_CARRY = unchanged apart (10_state.md (R26), 42_shift.md (R200, R201, R202)). -/
def Obligations.FlagsReadOnlyByBranches : Prop :=
  ∀ (i : Instr) (s t : State) (f : Flags),
    branchCond i = none → (flagShiftAmount s i ≠ some 0 ∨ s.cfg.shiftZeroCarry = .zero) →
    exec i s = .next t →
    exec i (s.setFlags f) = .next (t.setFlags (if setsFlags i = true then t.flags else f))

/-- MemRead: the bytes at (addr + i) mod 2^32 in either byte order, else MisalignedData or UnmappedAccess; the recorded address is the model's (log entry 17) (20_memory.md (R43, R47, R49, R51), 60_exceptions.md (R372)). -/
def Obligations.MemoryReadRule : Prop :=
  ∀ (s : State) (a : Word),
    (accessible s .byte a → s.memRead a .byte = .ok (s.byteAt a).toNat) ∧
    (accessible s .half a → s.memRead a .half = .ok (halfAt s a)) ∧
    (accessible s .word a → s.memRead a .word = .ok (wordAt s a)) ∧
    (∀ w v, s.memRead a w = .ok v → v < 2 ^ (8 * w.bytes)) ∧
    (∀ w : Width, s.cfg.misalignedData = .refuse → a.toNat % w.bytes ≠ 0 →
      s.memRead a w = .error (.misalignedData s.pc a)) ∧
    (∀ w : Width, (s.cfg.misalignedData = .allow ∨ a.toNat % w.bytes = 0) → ¬ accessible s w a →
      s.memRead a w = .error (.unmappedAccess s.pc a)) ∧
    (s.cfg.byteOrder = .little →
      wordAt s 0xFFFFFFFE = (s.byteAt 0xFFFFFFFE).toNat + 2 ^ 8 * (s.byteAt 0xFFFFFFFF).toNat +
        2 ^ 16 * (s.byteAt 0x00000000).toNat + 2 ^ 24 * (s.byteAt 0x00000001).toNat)

/-- MemWrite: every byte of v at its place in either byte order and no other changed, or nothing written; a read after it returns v mod 2^(8n) (20_memory.md (R44, R47, R58)). -/
def Obligations.MemoryWriteRule : Prop :=
  ∀ (s : State) (a : Word) (w : Width) (v : Word),
    (writable s w a → ∃ t, s.memWrite a w v.toNat = .ok t ∧
      (∀ i, i < w.bytes → t.byteAt (a + BitVec.ofNat 32 i) = storedByte s.cfg.byteOrder w.bytes i v) ∧
      (∀ b, ¬ touches a w.bytes b → t.byteAt b = s.byteAt b) ∧
      t.x = s.x ∧ t.flags = s.flags ∧ t.pc = s.pc ∧ t.cfg = s.cfg ∧
      t.memRead a w = .ok (v.toNat % 2 ^ (8 * w.bytes))) ∧
    (¬ writable s w a → ∃ f, s.memWrite a w v.toNat = .error f)

/-- With all of memory mapped and misaligned data allowed, a step can fault in four ways only; and every fault records the pc of the instruction (60_exceptions.md (R372), 70_reset_and_hazards.md (R401)). -/
def Obligations.DefaultFaults : Prop :=
  (∀ (s : State) (f : Fault), s.cfg.memMap = Config.default.memMap → s.cfg.misalignedData = .allow →
    (s.cfg.resetPc = some s.pc → s.inText s.pc = true) → step s = .fault f →
    f = .illegalInstruction s.pc ∨ f = .reservedEncoding s.pc ∨ f = .misalignedFetch s.pc ∨
      ∃ a, f = .textWrite s.pc a) ∧
  (∀ (s : State) (f : Fault), step s = .fault f →
    f = .illegalInstruction s.pc ∨ f = .reservedEncoding s.pc ∨ f = .misalignedFetch s.pc ∨
      ∃ a, f = .textWrite s.pc a ∨ f = .unmappedAccess s.pc a ∨ f = .misalignedData s.pc a)

/-- DIV and MOD, DIVU and MODU fit together: dividend = quotient * divisor + remainder, with the remainder bounded and signed as the rounding says (41_arith_muldiv.md (R172)). -/
def Obligations.QuotientAndRemainderAgree : Prop :=
  ∀ (m : SdivRounding) (a b : Word),
    (b ≠ 0 → ¬ (a = 0x80000000 ∧ b = 0xFFFFFFFF) →
      a.toInt = (divOp m a b).value.toInt * b.toInt + (modOp m a b).value.toInt ∧
      (modOp m a b).value.toInt.natAbs < b.toInt.natAbs ∧
      (m = .truncate → 0 ≤ (modOp m a b).value.toInt * a.toInt) ∧
      (m = .floor → 0 ≤ (modOp m a b).value.toInt * b.toInt)) ∧
    ((divOp m 0x80000000 0xFFFFFFFF).value = 0x80000000 ∧ (modOp m 0x80000000 0xFFFFFFFF).value = 0) ∧
    (b ≠ 0 → a.toNat = (divuOp a b).value.toNat * b.toNat + (moduOp a b).value.toNat ∧
      (moduOp a b).value.toNat < b.toNat) ∧
    ((divOp m a 0).value = 0 ∧ (modOp m a 0).value = 0 ∧ (divuOp a 0).value = 0 ∧ (moduOp a 0).value = 0)

/-- V of ADD and SUB is signed overflow, C is unsigned overflow and no borrow, and V of MUL with the unsigned product is unsigned overflow (40_arith_basic.md (R116, R121), 41_arith_muldiv.md (R151)). -/
def Obligations.OverflowFlagsMeanOverflow : Prop :=
  ∀ a b : Word,
    ((addOp a b).overflow = true ↔ ¬ (-(2 ^ 31) ≤ a.toInt + b.toInt ∧ a.toInt + b.toInt < 2 ^ 31)) ∧
    ((addOp a b).carry = true ↔ (addOp a b).value.toNat ≠ a.toNat + b.toNat) ∧
    ((subOp a b).overflow = true ↔ ¬ (-(2 ^ 31) ≤ a.toInt - b.toInt ∧ a.toInt - b.toInt < 2 ^ 31)) ∧
    ((subOp a b).carry = true ↔ ((subOp a b).value.toNat : Int) = (a.toNat : Int) - (b.toNat : Int)) ∧
    ((mulOp .unsigned a b).overflow = true ↔ (mulOp .unsigned a b).value.toNat ≠ a.toNat * b.toNat)

/-- Under iterate a shift by n is n one-position shifts with C the last bit moved out; under low5 it is the shift by b[4:0] (R202). -/
def Obligations.ShiftsIterateOnePositionShifts : Prop :=
  ∀ (cfg : Config) (a b : Word) (cin : Bool),
    let n := b.toNat
    let it : Config := { cfg with shiftOver31 := .iterate }
    let l5 : Config := { cfg with shiftOver31 := .low5 }
    let b5 : Word := BitVec.ofNat 32 (b.toNat % 32)
    ((shlOp it a b cin).value = (fun x : Word => x <<< 1)^[n] a ∧
      (0 < n → (shlOp it a b cin).carry = ((fun x : Word => x <<< 1)^[n - 1] a).getLsbD 31)) ∧
    ((lsrOp it a b cin).value = (fun x : Word => x >>> 1)^[n] a ∧
      (0 < n → (lsrOp it a b cin).carry = ((fun x : Word => x >>> 1)^[n - 1] a).getLsbD 0)) ∧
    ((asrOp it a b cin).value = (fun x : Word => x.sshiftRight 1)^[n] a ∧
      (0 < n → (asrOp it a b cin).carry = ((fun x : Word => x.sshiftRight 1)^[n - 1] a).getLsbD 0)) ∧
    ((rolOp it a b cin).value = (fun x : Word => x.rotateLeft 1)^[n] a ∧
      (0 < n → (rolOp it a b cin).carry = ((fun x : Word => x.rotateLeft 1)^[n - 1] a).getLsbD 31)) ∧
    ((rorOp it a b cin).value = (fun x : Word => x.rotateRight 1)^[n] a ∧
      (0 < n → (rorOp it a b cin).carry = ((fun x : Word => x.rotateRight 1)^[n - 1] a).getLsbD 0)) ∧
    (shlOp l5 a b cin = shlOp it a b5 cin ∧ asrOp l5 a b cin = asrOp it a b5 cin ∧
      lsrOp l5 a b cin = lsrOp it a b5 cin ∧ rolOp l5 a b cin = rolOp it a b5 cin ∧
      rorOp l5 a b cin = rorOp it a b5 cin) ∧
    ((rolOp l5 a b cin).value = (rolOp it a b cin).value ∧
      (rorOp l5 a b cin).value = (rorOp it a b cin).value)

/-- MOVH then ORI, or MOVHL then ORI, leaves any 32-bit constant; MOVH then JMP or JMPL reaches any 32-bit target (40_arith_basic.md (R127, R128), 45_control.md (R327)). -/
def Obligations.LongConstantsAndLongJumps : Prop :=
  ∀ (r rd : Reg) (k : Word) (s : State),
    (∃ t u, exec (.movh r (k.extractLsb' 16 16)) s = .next t ∧ exec (.ori r r (k.extractLsb' 0 16)) t = .next u ∧
      u.reg r = k) ∧
    (∃ t u, exec (.movhl r (k.extractLsb' 12 20)) s = .next t ∧
      exec (.ori r r ((k.extractLsb' 0 12).setWidth 16)) t = .next u ∧ u.reg r = k) ∧
    (∃ t u, exec (.movh r (k.extractLsb' 16 16)) s = .next t ∧ exec (.jmp r (k.extractLsb' 0 16)) t = .next u ∧
      u.pc = k ∧ u.reg r = BitVec.ofNat 32 (k.toNat / 2 ^ 16 * 2 ^ 16)) ∧
    (∃ t u, exec (.movh r (k.extractLsb' 16 16)) s = .next t ∧
      exec (.jmpl rd r (k.extractLsb' 0 16)) t = .next u ∧ u.pc = k ∧ u.reg rd = s.pc + 8)

/-- Sixteen 32-bit registers, none hard-wired: a write of any is read back, and no write changes another (10_state.md (R20), 00_scope.md (R8)). -/
def Obligations.RegisterFile : Prop :=
  (∀ (s : State) (r q : Reg) (v : Word), (s.setReg r v).reg q = if q = r then v else s.reg q) ∧
  (∀ (s t : State), (∀ r : Reg, s.reg r = t.reg r) → s.x = t.x)

/-- A launch places text and data, sets pc to RESET_PC, declares the text and END_PC, fixes the named registers and flags, and leaves the rest (70_reset_and_hazards.md (R405, R406), 20_memory.md (R45, R58)). -/
def Obligations.LaunchSetsTheRun : Prop :=
  ∀ (s : State) (l : Launch), l.wf = true → l.unambiguous = true →
    let inside : Word → Prop := fun a =>
      ∃ g ∈ l.text, g.base.toNat ≤ a.toNat ∧ a.toNat < g.base.toNat + 4 * g.words.length
    let t := s.launch l
    (∀ g ∈ l.text, ∀ (k : Nat) (h : k < g.words.length),
      wordAt t (g.base + BitVec.ofNat 32 (4 * k)) = (g.words[k]'h).toNat) ∧
    (∀ c ∈ l.data, t.byteAt c.1 = c.2) ∧
    (∀ a : Word, ¬ inside a → a ∉ l.data.map (·.1) → t.byteAt a = s.byteAt a) ∧
    (∀ a : Word, t.inText a = true ↔ inside a) ∧
    t.pc = l.resetPc ∧
    t.cfg = { s.cfg with resetPc := some l.resetPc, text := l.textRegions, endPc := some l.endPc } ∧
    (∀ rv ∈ l.regs, t.reg rv.1 = rv.2) ∧
    (∀ r : Reg, r ∉ l.regs.map (·.1) → t.reg r = s.reg r) ∧
    t.flags.n = l.flags.n.getD s.flags.n ∧ t.flags.z = l.flags.z.getD s.flags.z ∧
    t.flags.c = l.flags.c.getD s.flags.c ∧ t.flags.v = l.flags.v.getD s.flags.v

/-- The first step of a launch faults if RESET_PC is misaligned or outside the text, and else runs the text word there; no later step meets that check (70_reset_and_hazards.md (R401, R405, R406), 20_memory.md (R46, R48, R51)). -/
def Obligations.LaunchedRunStartsInText : Prop :=
  ∀ (s : State) (l : Launch), l.endPc ≠ l.resetPc →
    let inside : Word → Prop := fun a =>
      ∃ g ∈ l.text, g.base.toNat ≤ a.toNat ∧ a.toNat < g.base.toNat + 4 * g.words.length
    let t := s.launch l
    (l.resetPc.toNat % 4 ≠ 0 → step t = .fault (.misalignedFetch l.resetPc)) ∧
    (l.resetPc.toNat % 4 = 0 → ¬ inside l.resetPc → step t = .fault (.unmappedAccess l.resetPc l.resetPc)) ∧
    (l.wf = true → l.unambiguous = true →
      ∀ g ∈ l.text, ∀ (k : Nat) (h : k < g.words.length) (i : Instr),
        l.resetPc = g.base + BitVec.ofNat 32 (4 * k) →
        (∀ j, j < 4 → s.mapped (l.resetPc + BitVec.ofNat 32 j) = true) →
        decode (g.words[k]'h) = .instr i → step t = exec i t) ∧
    (inside l.resetPc → ∀ (k : Nat) (u : State), runsTo k t u → u.cfg.resetPc = some u.pc → u.inText u.pc = true)
end

