-- ==== Sys2Proof/Laws/Bytes.lean ====
section
/-!
SUPPORT. Values as bytes: lengths, the value of the bytes of a value, and the addresses of an access.
-/

namespace Sys2Proof.Machine

@[simp] theorem length_bytesLE (n v : Nat) : (bytesLE n v).length = n := by
  induction n generalizing v with
  | zero => rfl
  | succ n ih => simp [bytesLE, ih]

@[simp] theorem length_orderBytes (o : ByteOrder) (bs : List Byte) : (orderBytes o bs).length = bs.length := by
  cases o <;> simp [orderBytes]

@[simp] theorem length_bytesOf (o : ByteOrder) (n v : Nat) : (bytesOf o n v).length = n := by
  simp [bytesOf]

@[simp] theorem orderBytes_orderBytes (o : ByteOrder) (bs : List Byte) : orderBytes o (orderBytes o bs) = bs := by
  cases o <;> simp [orderBytes]

/-- The value of the bytes of `v` is `v mod 2^(8n)`. -/
theorem valueLE_bytesLE (n v : Nat) : valueLE (bytesLE n v) = v % 256 ^ n := by
  induction n generalizing v with
  | zero => simp [bytesLE, valueLE, Nat.mod_one]
  | succ n ih =>
    have h : v % 256 ^ (n + 1) = v % 256 + 256 * (v / 256 % 256 ^ n) := by
      rw [pow_succ', Nat.mod_mul]
    rw [bytesLE, valueLE, ih, BitVec.toNat_ofNat, h]

/-- The same in either byte order (R44: a read after a write returns `v mod 2^(8n)`). -/
@[simp] theorem valueOf_bytesOf (o : ByteOrder) (n v : Nat) : valueOf o (bytesOf o n v) = v % 256 ^ n := by
  rw [valueOf, bytesOf, orderBytes_orderBytes, valueLE_bytesLE]

@[simp] theorem length_byteAddrs (addr : Word) (n : Nat) : (byteAddrs addr n).length = n := by
  simp [byteAddrs]

/-- The addresses of an access. -/
theorem mem_byteAddrs (addr a : Word) (n : Nat) :
    a ∈ byteAddrs addr n ↔ ∃ i, i < n ∧ a = addr + BitVec.ofNat 32 i := by
  simp only [byteAddrs, List.mem_map, List.mem_range]
  exact ⟨fun ⟨i, h, e⟩ => ⟨i, h, e.symm⟩, fun ⟨i, h, e⟩ => ⟨i, h, e.symm⟩⟩

/-- No address of an access occurs twice: the widths are far below 2^32. -/
theorem nodup_byteAddrs (addr : Word) (n : Nat) (h : n ≤ 2 ^ 32) : (byteAddrs addr n).Nodup := by
  refine List.Nodup.map_on ?_ List.nodup_range
  intro i hi j hj e
  have hi' := List.mem_range.mp hi
  have hj' := List.mem_range.mp hj
  have e' : BitVec.ofNat 32 i = BitVec.ofNat 32 j := by
    simpa using e
  have := congrArg BitVec.toNat e'
  rw [BitVec.toNat_ofNat, BitVec.toNat_ofNat, Nat.mod_eq_of_lt (lt_of_lt_of_le hi' h),
    Nat.mod_eq_of_lt (lt_of_lt_of_le hj' h)] at this
  exact this

end Sys2Proof.Machine
end

