-- ==== Sys2Proof/Laws/Encoding.lean ====
section
/-!
SUPPORT. The fields of an encoded word: each field of a format reads back what was put there, and the mask of a
format leaves the fixed bits (spec/30_encoding.md R71 to R81).
-/

set_option linter.unusedSimpArgs false

namespace Sys2Proof

/-! ## One field -/

/-- A bit of a field put at `lo`. -/
theorem getLsbD_putField {n : Nat} (v : BitVec n) (lo i : Nat) :
    (putField v lo).getLsbD i = (decide (i < 32) && decide (lo ≤ i) && v.getLsbD (i - lo)) := by
  simp only [putField, BitVec.getLsbD_shiftLeft, BitVec.getLsbD_setWidth]
  by_cases h2 : lo ≤ i
  · have h3 : ¬ i < lo := by omega
    by_cases h1 : i < 32
    · simp [h1, h2, h3, show i - lo < 32 by omega]
    · simp [h1]
  · simp [h2, show i < lo by omega]

/-- A field reads back as it was put. -/
theorem extractLsb'_putField_same {n : Nat} (v : BitVec n) (lo : Nat) (h : lo + n ≤ 32) :
    (putField v lo).extractLsb' lo n = v := by
  apply BitVec.eq_of_getLsbD_eq
  intro i hi
  rw [BitVec.getLsbD_extractLsb', getLsbD_putField, Nat.add_sub_cancel_left]
  simp [hi, show lo + i < 32 by omega]

/-- Below a field there is nothing of it. -/
theorem extractLsb'_putField_below {n : Nat} (v : BitVec n) (lo k len : Nat) (h : k + len ≤ lo) :
    (putField v lo).extractLsb' k len = 0 := by
  apply BitVec.eq_of_getLsbD_eq
  intro i hi
  rw [BitVec.getLsbD_extractLsb', getLsbD_putField]
  simp [show ¬ lo ≤ k + i by omega]

/-- Above a field there is nothing of it. -/
theorem extractLsb'_putField_above {n : Nat} (v : BitVec n) (lo k len : Nat) (h : lo + n ≤ k) :
    (putField v lo).extractLsb' k len = 0 := by
  apply BitVec.eq_of_getLsbD_eq
  intro i hi
  rw [BitVec.getLsbD_extractLsb', getLsbD_putField, BitVec.getLsbD_of_ge v (k + i - lo) (by omega)]
  simp

/-- A mask on a field is the mask's part on the field's value. -/
theorem putField_and {n : Nat} (v : BitVec n) (lo : Nat) (m : Word) :
    putField v lo &&& m = putField (v &&& m.extractLsb' lo n) lo := by
  apply BitVec.eq_of_getLsbD_eq
  intro i hi
  rw [BitVec.getLsbD_and, getLsbD_putField, getLsbD_putField, BitVec.getLsbD_and, BitVec.getLsbD_extractLsb']
  by_cases h : lo ≤ i
  · rw [show lo + (i - lo) = i by omega]
    by_cases h2 : i - lo < n
    · simp [h2, h, hi]
    · simp [h2, BitVec.getLsbD_of_ge v (i - lo) (by omega)]
  · simp [h]

@[simp] theorem putField_zero {n : Nat} (lo : Nat) : putField (0#n) lo = 0#32 := by
  simp [putField]

theorem Opcode.bits_and_63 (op : Opcode) : op.bits &&& 63#6 = op.bits := by
  cases op <;> rfl

theorem ofBool_and_one (b : Bool) : BitVec.ofBool b &&& 1#1 = BitVec.ofBool b := by
  cases b <;> rfl

/-- Every opcode is read back from its bits (R86). -/
@[simp] theorem Opcode.ofBits_bits (op : Opcode) : Opcode.ofBits op.bits = some op := by
  cases op <;> rfl

/-! ## F-RRR -/

theorem encodeRRR_and (op : Opcode) (m25 m24 : Bool) (rd ra rb : Reg) :
    encodeRRR op m25 m24 rd ra rb &&& 0xFF000FFF#32 = encodeHead op m25 m24 := by
  simp [encodeRRR, encodeHead, BitVec.and_or_distrib_right, putField_and, Opcode.bits_and_63, ofBool_and_one]

@[simp] theorem opcodeField_encodeRRR (op : Opcode) (m25 m24 : Bool) (rd ra rb : Reg) :
    opcodeField (encodeRRR op m25 m24 rd ra rb) = op.bits := by
  simp [opcodeField, encodeRRR, encodeHead, BitVec.extractLsb'_or, extractLsb'_putField_same,
    extractLsb'_putField_below, extractLsb'_putField_above]

@[simp] theorem mode25_encodeRRR (op : Opcode) (m25 m24 : Bool) (rd ra rb : Reg) :
    mode25 (encodeRRR op m25 m24 rd ra rb) = m25 := by
  simp only [mode25, encodeRRR, encodeHead, BitVec.getLsbD_or, getLsbD_putField]
  simp

@[simp] theorem mode24_encodeRRR (op : Opcode) (m25 m24 : Bool) (rd ra rb : Reg) :
    mode24 (encodeRRR op m25 m24 rd ra rb) = m24 := by
  simp only [mode24, encodeRRR, encodeHead, BitVec.getLsbD_or, getLsbD_putField]
  simp

@[simp] theorem fieldD_encodeRRR (op : Opcode) (m25 m24 : Bool) (rd ra rb : Reg) :
    fieldD (encodeRRR op m25 m24 rd ra rb) = rd := by
  simp [fieldD, encodeRRR, encodeHead, BitVec.extractLsb'_or, extractLsb'_putField_same,
    extractLsb'_putField_below, extractLsb'_putField_above]

@[simp] theorem fieldA_encodeRRR (op : Opcode) (m25 m24 : Bool) (rd ra rb : Reg) :
    fieldA (encodeRRR op m25 m24 rd ra rb) = ra := by
  simp [fieldA, encodeRRR, encodeHead, BitVec.extractLsb'_or, extractLsb'_putField_same,
    extractLsb'_putField_below, extractLsb'_putField_above]

@[simp] theorem fieldB_encodeRRR (op : Opcode) (m25 m24 : Bool) (rd ra rb : Reg) :
    fieldB (encodeRRR op m25 m24 rd ra rb) = rb := by
  simp [fieldB, encodeRRR, encodeHead, BitVec.extractLsb'_or, extractLsb'_putField_same,
    extractLsb'_putField_below, extractLsb'_putField_above]

@[simp] theorem low12_encodeRRR (op : Opcode) (m25 m24 : Bool) (rd ra rb : Reg) :
    low12 (encodeRRR op m25 m24 rd ra rb) = 0 := by
  simp [low12, encodeRRR, encodeHead, BitVec.extractLsb'_or, extractLsb'_putField_same,
    extractLsb'_putField_below, extractLsb'_putField_above]

/-! ## F-RRI16 -/

theorem encodeRRI16_and (op : Opcode) (m25 m24 : Bool) (rd ra : Reg) (imm : BitVec 16) :
    encodeRRI16 op m25 m24 rd ra imm &&& 0xFF000000#32 = encodeHead op m25 m24 := by
  simp [encodeRRI16, encodeHead, BitVec.and_or_distrib_right, putField_and, Opcode.bits_and_63, ofBool_and_one]

@[simp] theorem opcodeField_encodeRRI16 (op : Opcode) (m25 m24 : Bool) (rd ra : Reg) (imm : BitVec 16) :
    opcodeField (encodeRRI16 op m25 m24 rd ra imm) = op.bits := by
  simp [opcodeField, encodeRRI16, encodeHead, BitVec.extractLsb'_or, extractLsb'_putField_same,
    extractLsb'_putField_below, extractLsb'_putField_above]

@[simp] theorem mode25_encodeRRI16 (op : Opcode) (m25 m24 : Bool) (rd ra : Reg) (imm : BitVec 16) :
    mode25 (encodeRRI16 op m25 m24 rd ra imm) = m25 := by
  simp only [mode25, encodeRRI16, encodeHead, BitVec.getLsbD_or, getLsbD_putField]
  simp

@[simp] theorem mode24_encodeRRI16 (op : Opcode) (m25 m24 : Bool) (rd ra : Reg) (imm : BitVec 16) :
    mode24 (encodeRRI16 op m25 m24 rd ra imm) = m24 := by
  simp only [mode24, encodeRRI16, encodeHead, BitVec.getLsbD_or, getLsbD_putField]
  simp

@[simp] theorem fieldD_encodeRRI16 (op : Opcode) (m25 m24 : Bool) (rd ra : Reg) (imm : BitVec 16) :
    fieldD (encodeRRI16 op m25 m24 rd ra imm) = rd := by
  simp [fieldD, encodeRRI16, encodeHead, BitVec.extractLsb'_or, extractLsb'_putField_same,
    extractLsb'_putField_below, extractLsb'_putField_above]

@[simp] theorem fieldA_encodeRRI16 (op : Opcode) (m25 m24 : Bool) (rd ra : Reg) (imm : BitVec 16) :
    fieldA (encodeRRI16 op m25 m24 rd ra imm) = ra := by
  simp [fieldA, encodeRRI16, encodeHead, BitVec.extractLsb'_or, extractLsb'_putField_same,
    extractLsb'_putField_below, extractLsb'_putField_above]

@[simp] theorem imm16Field_encodeRRI16 (op : Opcode) (m25 m24 : Bool) (rd ra : Reg) (imm : BitVec 16) :
    imm16Field (encodeRRI16 op m25 m24 rd ra imm) = imm := by
  simp [imm16Field, encodeRRI16, encodeHead, BitVec.extractLsb'_or, extractLsb'_putField_same,
    extractLsb'_putField_below, extractLsb'_putField_above]

/-! ## F-RxR -/

theorem encodeRxR_and (op : Opcode) (m25 m24 : Bool) (rd rb : Reg) :
    encodeRxR op m25 m24 rd rb &&& 0xFF0F0FFF#32 = encodeHead op m25 m24 := by
  simp [encodeRxR, encodeHead, BitVec.and_or_distrib_right, putField_and, Opcode.bits_and_63, ofBool_and_one]

@[simp] theorem opcodeField_encodeRxR (op : Opcode) (m25 m24 : Bool) (rd rb : Reg) :
    opcodeField (encodeRxR op m25 m24 rd rb) = op.bits := by
  simp [opcodeField, encodeRxR, encodeHead, BitVec.extractLsb'_or, extractLsb'_putField_same,
    extractLsb'_putField_below, extractLsb'_putField_above]

@[simp] theorem mode25_encodeRxR (op : Opcode) (m25 m24 : Bool) (rd rb : Reg) :
    mode25 (encodeRxR op m25 m24 rd rb) = m25 := by
  simp only [mode25, encodeRxR, encodeHead, BitVec.getLsbD_or, getLsbD_putField]
  simp

@[simp] theorem mode24_encodeRxR (op : Opcode) (m25 m24 : Bool) (rd rb : Reg) :
    mode24 (encodeRxR op m25 m24 rd rb) = m24 := by
  simp only [mode24, encodeRxR, encodeHead, BitVec.getLsbD_or, getLsbD_putField]
  simp

@[simp] theorem fieldD_encodeRxR (op : Opcode) (m25 m24 : Bool) (rd rb : Reg) :
    fieldD (encodeRxR op m25 m24 rd rb) = rd := by
  simp [fieldD, encodeRxR, encodeHead, BitVec.extractLsb'_or, extractLsb'_putField_same,
    extractLsb'_putField_below, extractLsb'_putField_above]

@[simp] theorem fieldA_encodeRxR (op : Opcode) (m25 m24 : Bool) (rd rb : Reg) :
    fieldA (encodeRxR op m25 m24 rd rb) = 0 := by
  simp [fieldA, encodeRxR, encodeHead, BitVec.extractLsb'_or, extractLsb'_putField_same,
    extractLsb'_putField_below, extractLsb'_putField_above]

@[simp] theorem fieldB_encodeRxR (op : Opcode) (m25 m24 : Bool) (rd rb : Reg) :
    fieldB (encodeRxR op m25 m24 rd rb) = rb := by
  simp [fieldB, encodeRxR, encodeHead, BitVec.extractLsb'_or, extractLsb'_putField_same,
    extractLsb'_putField_below, extractLsb'_putField_above]

@[simp] theorem low12_encodeRxR (op : Opcode) (m25 m24 : Bool) (rd rb : Reg) :
    low12 (encodeRxR op m25 m24 rd rb) = 0 := by
  simp [low12, encodeRxR, encodeHead, BitVec.extractLsb'_or, extractLsb'_putField_same,
    extractLsb'_putField_below, extractLsb'_putField_above]

/-! ## F-RI20 -/

theorem encodeRI20_and (op : Opcode) (m25 m24 : Bool) (rd : Reg) (imm : BitVec 20) :
    encodeRI20 op m25 m24 rd imm &&& 0xFF000000#32 = encodeHead op m25 m24 := by
  simp [encodeRI20, encodeHead, BitVec.and_or_distrib_right, putField_and, Opcode.bits_and_63, ofBool_and_one]

@[simp] theorem opcodeField_encodeRI20 (op : Opcode) (m25 m24 : Bool) (rd : Reg) (imm : BitVec 20) :
    opcodeField (encodeRI20 op m25 m24 rd imm) = op.bits := by
  simp [opcodeField, encodeRI20, encodeHead, BitVec.extractLsb'_or, extractLsb'_putField_same,
    extractLsb'_putField_below, extractLsb'_putField_above]

@[simp] theorem mode25_encodeRI20 (op : Opcode) (m25 m24 : Bool) (rd : Reg) (imm : BitVec 20) :
    mode25 (encodeRI20 op m25 m24 rd imm) = m25 := by
  simp only [mode25, encodeRI20, encodeHead, BitVec.getLsbD_or, getLsbD_putField]
  simp

@[simp] theorem mode24_encodeRI20 (op : Opcode) (m25 m24 : Bool) (rd : Reg) (imm : BitVec 20) :
    mode24 (encodeRI20 op m25 m24 rd imm) = m24 := by
  simp only [mode24, encodeRI20, encodeHead, BitVec.getLsbD_or, getLsbD_putField]
  simp

@[simp] theorem fieldD_encodeRI20 (op : Opcode) (m25 m24 : Bool) (rd : Reg) (imm : BitVec 20) :
    fieldD (encodeRI20 op m25 m24 rd imm) = rd := by
  simp [fieldD, encodeRI20, encodeHead, BitVec.extractLsb'_or, extractLsb'_putField_same,
    extractLsb'_putField_below, extractLsb'_putField_above]

@[simp] theorem imm20Field_encodeRI20 (op : Opcode) (m25 m24 : Bool) (rd : Reg) (imm : BitVec 20) :
    imm20Field (encodeRI20 op m25 m24 rd imm) = imm := by
  simp [imm20Field, encodeRI20, encodeHead, BitVec.extractLsb'_or, extractLsb'_putField_same,
    extractLsb'_putField_below, extractLsb'_putField_above]

/-! ## F-RxI16 -/

theorem encodeRxI16_and (op : Opcode) (m25 m24 : Bool) (rd : Reg) (imm : BitVec 16) :
    encodeRxI16 op m25 m24 rd imm &&& 0xFF0F0000#32 = encodeHead op m25 m24 := by
  simp [encodeRxI16, encodeHead, BitVec.and_or_distrib_right, putField_and, Opcode.bits_and_63, ofBool_and_one]

@[simp] theorem opcodeField_encodeRxI16 (op : Opcode) (m25 m24 : Bool) (rd : Reg) (imm : BitVec 16) :
    opcodeField (encodeRxI16 op m25 m24 rd imm) = op.bits := by
  simp [opcodeField, encodeRxI16, encodeHead, BitVec.extractLsb'_or, extractLsb'_putField_same,
    extractLsb'_putField_below, extractLsb'_putField_above]

@[simp] theorem mode25_encodeRxI16 (op : Opcode) (m25 m24 : Bool) (rd : Reg) (imm : BitVec 16) :
    mode25 (encodeRxI16 op m25 m24 rd imm) = m25 := by
  simp only [mode25, encodeRxI16, encodeHead, BitVec.getLsbD_or, getLsbD_putField]
  simp

@[simp] theorem mode24_encodeRxI16 (op : Opcode) (m25 m24 : Bool) (rd : Reg) (imm : BitVec 16) :
    mode24 (encodeRxI16 op m25 m24 rd imm) = m24 := by
  simp only [mode24, encodeRxI16, encodeHead, BitVec.getLsbD_or, getLsbD_putField]
  simp

@[simp] theorem fieldD_encodeRxI16 (op : Opcode) (m25 m24 : Bool) (rd : Reg) (imm : BitVec 16) :
    fieldD (encodeRxI16 op m25 m24 rd imm) = rd := by
  simp [fieldD, encodeRxI16, encodeHead, BitVec.extractLsb'_or, extractLsb'_putField_same,
    extractLsb'_putField_below, extractLsb'_putField_above]

@[simp] theorem fieldA_encodeRxI16 (op : Opcode) (m25 m24 : Bool) (rd : Reg) (imm : BitVec 16) :
    fieldA (encodeRxI16 op m25 m24 rd imm) = 0 := by
  simp [fieldA, encodeRxI16, encodeHead, BitVec.extractLsb'_or, extractLsb'_putField_same,
    extractLsb'_putField_below, extractLsb'_putField_above]

@[simp] theorem imm16Field_encodeRxI16 (op : Opcode) (m25 m24 : Bool) (rd : Reg) (imm : BitVec 16) :
    imm16Field (encodeRxI16 op m25 m24 rd imm) = imm := by
  simp [imm16Field, encodeRxI16, encodeHead, BitVec.extractLsb'_or, extractLsb'_putField_same,
    extractLsb'_putField_below, extractLsb'_putField_above]

/-! ## F-XRR -/

theorem encodeXRR_and (op : Opcode) (m25 m24 : Bool) (ra rb : Reg) :
    encodeXRR op m25 m24 ra rb &&& 0xFFF00FFF#32 = encodeHead op m25 m24 := by
  simp [encodeXRR, encodeHead, BitVec.and_or_distrib_right, putField_and, Opcode.bits_and_63, ofBool_and_one]

@[simp] theorem opcodeField_encodeXRR (op : Opcode) (m25 m24 : Bool) (ra rb : Reg) :
    opcodeField (encodeXRR op m25 m24 ra rb) = op.bits := by
  simp [opcodeField, encodeXRR, encodeHead, BitVec.extractLsb'_or, extractLsb'_putField_same,
    extractLsb'_putField_below, extractLsb'_putField_above]

@[simp] theorem mode25_encodeXRR (op : Opcode) (m25 m24 : Bool) (ra rb : Reg) :
    mode25 (encodeXRR op m25 m24 ra rb) = m25 := by
  simp only [mode25, encodeXRR, encodeHead, BitVec.getLsbD_or, getLsbD_putField]
  simp

@[simp] theorem mode24_encodeXRR (op : Opcode) (m25 m24 : Bool) (ra rb : Reg) :
    mode24 (encodeXRR op m25 m24 ra rb) = m24 := by
  simp only [mode24, encodeXRR, encodeHead, BitVec.getLsbD_or, getLsbD_putField]
  simp

@[simp] theorem fieldD_encodeXRR (op : Opcode) (m25 m24 : Bool) (ra rb : Reg) :
    fieldD (encodeXRR op m25 m24 ra rb) = 0 := by
  simp [fieldD, encodeXRR, encodeHead, BitVec.extractLsb'_or, extractLsb'_putField_same,
    extractLsb'_putField_below, extractLsb'_putField_above]

@[simp] theorem fieldA_encodeXRR (op : Opcode) (m25 m24 : Bool) (ra rb : Reg) :
    fieldA (encodeXRR op m25 m24 ra rb) = ra := by
  simp [fieldA, encodeXRR, encodeHead, BitVec.extractLsb'_or, extractLsb'_putField_same,
    extractLsb'_putField_below, extractLsb'_putField_above]

@[simp] theorem fieldB_encodeXRR (op : Opcode) (m25 m24 : Bool) (ra rb : Reg) :
    fieldB (encodeXRR op m25 m24 ra rb) = rb := by
  simp [fieldB, encodeXRR, encodeHead, BitVec.extractLsb'_or, extractLsb'_putField_same,
    extractLsb'_putField_below, extractLsb'_putField_above]

@[simp] theorem low12_encodeXRR (op : Opcode) (m25 m24 : Bool) (ra rb : Reg) :
    low12 (encodeXRR op m25 m24 ra rb) = 0 := by
  simp [low12, encodeXRR, encodeHead, BitVec.extractLsb'_or, extractLsb'_putField_same,
    extractLsb'_putField_below, extractLsb'_putField_above]

/-! ## F-XRI16 -/

theorem encodeXRI16_and (op : Opcode) (m25 m24 : Bool) (ra : Reg) (imm : BitVec 16) :
    encodeXRI16 op m25 m24 ra imm &&& 0xFFF00000#32 = encodeHead op m25 m24 := by
  simp [encodeXRI16, encodeHead, BitVec.and_or_distrib_right, putField_and, Opcode.bits_and_63, ofBool_and_one]

@[simp] theorem opcodeField_encodeXRI16 (op : Opcode) (m25 m24 : Bool) (ra : Reg) (imm : BitVec 16) :
    opcodeField (encodeXRI16 op m25 m24 ra imm) = op.bits := by
  simp [opcodeField, encodeXRI16, encodeHead, BitVec.extractLsb'_or, extractLsb'_putField_same,
    extractLsb'_putField_below, extractLsb'_putField_above]

@[simp] theorem mode25_encodeXRI16 (op : Opcode) (m25 m24 : Bool) (ra : Reg) (imm : BitVec 16) :
    mode25 (encodeXRI16 op m25 m24 ra imm) = m25 := by
  simp only [mode25, encodeXRI16, encodeHead, BitVec.getLsbD_or, getLsbD_putField]
  simp

@[simp] theorem mode24_encodeXRI16 (op : Opcode) (m25 m24 : Bool) (ra : Reg) (imm : BitVec 16) :
    mode24 (encodeXRI16 op m25 m24 ra imm) = m24 := by
  simp only [mode24, encodeXRI16, encodeHead, BitVec.getLsbD_or, getLsbD_putField]
  simp

@[simp] theorem fieldD_encodeXRI16 (op : Opcode) (m25 m24 : Bool) (ra : Reg) (imm : BitVec 16) :
    fieldD (encodeXRI16 op m25 m24 ra imm) = 0 := by
  simp [fieldD, encodeXRI16, encodeHead, BitVec.extractLsb'_or, extractLsb'_putField_same,
    extractLsb'_putField_below, extractLsb'_putField_above]

@[simp] theorem fieldA_encodeXRI16 (op : Opcode) (m25 m24 : Bool) (ra : Reg) (imm : BitVec 16) :
    fieldA (encodeXRI16 op m25 m24 ra imm) = ra := by
  simp [fieldA, encodeXRI16, encodeHead, BitVec.extractLsb'_or, extractLsb'_putField_same,
    extractLsb'_putField_below, extractLsb'_putField_above]

@[simp] theorem imm16Field_encodeXRI16 (op : Opcode) (m25 m24 : Bool) (ra : Reg) (imm : BitVec 16) :
    imm16Field (encodeXRI16 op m25 m24 ra imm) = imm := by
  simp [imm16Field, encodeXRI16, encodeHead, BitVec.extractLsb'_or, extractLsb'_putField_same,
    extractLsb'_putField_below, extractLsb'_putField_above]

/-! ## F-SD16 -/

theorem encodeSD16_and (op : Opcode) (m25 m24 : Bool) (rb ra : Reg) (imm : BitVec 16) :
    encodeSD16 op m25 m24 rb ra imm &&& 0xFF000000#32 = encodeHead op m25 m24 := by
  simp [encodeSD16, encodeHead, BitVec.and_or_distrib_right, putField_and, Opcode.bits_and_63, ofBool_and_one]

@[simp] theorem opcodeField_encodeSD16 (op : Opcode) (m25 m24 : Bool) (rb ra : Reg) (imm : BitVec 16) :
    opcodeField (encodeSD16 op m25 m24 rb ra imm) = op.bits := by
  simp [opcodeField, encodeSD16, encodeHead, BitVec.extractLsb'_or, extractLsb'_putField_same,
    extractLsb'_putField_below, extractLsb'_putField_above]

@[simp] theorem mode25_encodeSD16 (op : Opcode) (m25 m24 : Bool) (rb ra : Reg) (imm : BitVec 16) :
    mode25 (encodeSD16 op m25 m24 rb ra imm) = m25 := by
  simp only [mode25, encodeSD16, encodeHead, BitVec.getLsbD_or, getLsbD_putField]
  simp

@[simp] theorem mode24_encodeSD16 (op : Opcode) (m25 m24 : Bool) (rb ra : Reg) (imm : BitVec 16) :
    mode24 (encodeSD16 op m25 m24 rb ra imm) = m24 := by
  simp only [mode24, encodeSD16, encodeHead, BitVec.getLsbD_or, getLsbD_putField]
  simp

@[simp] theorem fieldB_encodeSD16 (op : Opcode) (m25 m24 : Bool) (rb ra : Reg) (imm : BitVec 16) :
    fieldB (encodeSD16 op m25 m24 rb ra imm) = rb := by
  simp [fieldB, encodeSD16, encodeHead, BitVec.extractLsb'_or, extractLsb'_putField_same,
    extractLsb'_putField_below, extractLsb'_putField_above]

@[simp] theorem fieldA_encodeSD16 (op : Opcode) (m25 m24 : Bool) (rb ra : Reg) (imm : BitVec 16) :
    fieldA (encodeSD16 op m25 m24 rb ra imm) = ra := by
  simp [fieldA, encodeSD16, encodeHead, BitVec.extractLsb'_or, extractLsb'_putField_same,
    extractLsb'_putField_below, extractLsb'_putField_above]

@[simp] theorem fieldD_encodeSD16 (op : Opcode) (m25 m24 : Bool) (rb ra : Reg) (imm : BitVec 16) :
    fieldD (encodeSD16 op m25 m24 rb ra imm) = imm.extractLsb' 12 4 := by
  simp [fieldD, encodeSD16, encodeHead, BitVec.extractLsb'_or, extractLsb'_putField_same,
    extractLsb'_putField_below, extractLsb'_putField_above]

@[simp] theorem low12_encodeSD16 (op : Opcode) (m25 m24 : Bool) (rb ra : Reg) (imm : BitVec 16) :
    low12 (encodeSD16 op m25 m24 rb ra imm) = imm.extractLsb' 0 12 := by
  simp [low12, encodeSD16, encodeHead, BitVec.extractLsb'_or, extractLsb'_putField_same,
    extractLsb'_putField_below, extractLsb'_putField_above]

/-! ## F-S20 -/

theorem encodeS20_and (op : Opcode) (m25 m24 : Bool) (rb : Reg) (imm : BitVec 20) :
    encodeS20 op m25 m24 rb imm &&& 0xFF000000#32 = encodeHead op m25 m24 := by
  simp [encodeS20, encodeHead, BitVec.and_or_distrib_right, putField_and, Opcode.bits_and_63, ofBool_and_one]

@[simp] theorem opcodeField_encodeS20 (op : Opcode) (m25 m24 : Bool) (rb : Reg) (imm : BitVec 20) :
    opcodeField (encodeS20 op m25 m24 rb imm) = op.bits := by
  simp [opcodeField, encodeS20, encodeHead, BitVec.extractLsb'_or, extractLsb'_putField_same,
    extractLsb'_putField_below, extractLsb'_putField_above]

@[simp] theorem mode25_encodeS20 (op : Opcode) (m25 m24 : Bool) (rb : Reg) (imm : BitVec 20) :
    mode25 (encodeS20 op m25 m24 rb imm) = m25 := by
  simp only [mode25, encodeS20, encodeHead, BitVec.getLsbD_or, getLsbD_putField]
  simp

@[simp] theorem mode24_encodeS20 (op : Opcode) (m25 m24 : Bool) (rb : Reg) (imm : BitVec 20) :
    mode24 (encodeS20 op m25 m24 rb imm) = m24 := by
  simp only [mode24, encodeS20, encodeHead, BitVec.getLsbD_or, getLsbD_putField]
  simp

@[simp] theorem fieldB_encodeS20 (op : Opcode) (m25 m24 : Bool) (rb : Reg) (imm : BitVec 20) :
    fieldB (encodeS20 op m25 m24 rb imm) = rb := by
  simp [fieldB, encodeS20, encodeHead, BitVec.extractLsb'_or, extractLsb'_putField_same,
    extractLsb'_putField_below, extractLsb'_putField_above]

@[simp] theorem low12_encodeS20 (op : Opcode) (m25 m24 : Bool) (rb : Reg) (imm : BitVec 20) :
    low12 (encodeS20 op m25 m24 rb imm) = imm.extractLsb' 0 12 := by
  simp [low12, encodeS20, encodeHead, BitVec.extractLsb'_or, extractLsb'_putField_same,
    extractLsb'_putField_below, extractLsb'_putField_above]

/-! ## F-I24 -/

theorem encodeI24_and (op : Opcode) (m25 m24 : Bool) (imm : BitVec 24) :
    encodeI24 op m25 m24 imm &&& 0xFF000000#32 = encodeHead op m25 m24 := by
  simp [encodeI24, encodeHead, BitVec.and_or_distrib_right, putField_and, Opcode.bits_and_63, ofBool_and_one]

@[simp] theorem opcodeField_encodeI24 (op : Opcode) (m25 m24 : Bool) (imm : BitVec 24) :
    opcodeField (encodeI24 op m25 m24 imm) = op.bits := by
  simp [opcodeField, encodeI24, encodeHead, BitVec.extractLsb'_or, extractLsb'_putField_same,
    extractLsb'_putField_below, extractLsb'_putField_above]

@[simp] theorem mode25_encodeI24 (op : Opcode) (m25 m24 : Bool) (imm : BitVec 24) :
    mode25 (encodeI24 op m25 m24 imm) = m25 := by
  simp only [mode25, encodeI24, encodeHead, BitVec.getLsbD_or, getLsbD_putField]
  simp

@[simp] theorem mode24_encodeI24 (op : Opcode) (m25 m24 : Bool) (imm : BitVec 24) :
    mode24 (encodeI24 op m25 m24 imm) = m24 := by
  simp only [mode24, encodeI24, encodeHead, BitVec.getLsbD_or, getLsbD_putField]
  simp

@[simp] theorem imm24Field_encodeI24 (op : Opcode) (m25 m24 : Bool) (imm : BitVec 24) :
    imm24Field (encodeI24 op m25 m24 imm) = imm := by
  simp [imm24Field, encodeI24, encodeHead, BitVec.extractLsb'_or, extractLsb'_putField_same,
    extractLsb'_putField_below, extractLsb'_putField_above]

/-! ## F-B -/

theorem encodeB_and (imm : BitVec 22) (cond : BitVec 4) :
    encodeB imm cond &&& 0xFC00000F#32 = putField Opcode.b.bits 26 ||| putField cond 0 := by
  have h : cond &&& 15#4 = cond := by
    rw [show 15#4 = BitVec.allOnes 4 from rfl, BitVec.and_allOnes]
  simp [encodeB, BitVec.and_or_distrib_right, putField_and, Opcode.bits_and_63, h]

@[simp] theorem opcodeField_encodeB (imm : BitVec 22) (cond : BitVec 4) :
    opcodeField (encodeB imm cond) = Opcode.b.bits := by
  simp [opcodeField, encodeB, BitVec.extractLsb'_or, extractLsb'_putField_same, extractLsb'_putField_above]

@[simp] theorem imm22Field_encodeB (imm : BitVec 22) (cond : BitVec 4) : imm22Field (encodeB imm cond) = imm := by
  simp [imm22Field, encodeB, BitVec.extractLsb'_or, extractLsb'_putField_same, extractLsb'_putField_below,
    extractLsb'_putField_above]

@[simp] theorem condField_encodeB (imm : BitVec 22) (cond : BitVec 4) : condField (encodeB imm cond) = cond := by
  simp [condField, encodeB, BitVec.extractLsb'_or, extractLsb'_putField_same, extractLsb'_putField_below]

/-! ## The split immediate of a store (R84) -/

/-- Two parts of a value joined give the value back. -/
theorem join_extractLsb' {n : Nat} (v : BitVec n) (lo hi : Nat) (h : n = hi + lo) :
    (v.extractLsb' lo hi).setWidth n <<< lo ||| (v.extractLsb' 0 lo).setWidth n = v := by
  apply BitVec.eq_of_getLsbD_eq
  intro i hi'
  rw [BitVec.getLsbD_or, BitVec.getLsbD_shiftLeft, BitVec.getLsbD_setWidth, BitVec.getLsbD_setWidth,
    BitVec.getLsbD_extractLsb', BitVec.getLsbD_extractLsb']
  by_cases hl : i < lo
  · simp [hl, hi']
  · rw [show lo + (i - lo) = i by omega]
    simp [hl, hi', show i - lo < n by omega, show i - lo < hi by omega]

@[simp] theorem storeImm16_encodeSD16 (op : Opcode) (m25 m24 : Bool) (rb ra : Reg) (imm : BitVec 16) :
    storeImm16 (encodeSD16 op m25 m24 rb ra imm) = imm := by
  rw [storeImm16, fieldD_encodeSD16, low12_encodeSD16]
  exact join_extractLsb' imm 12 4 rfl

@[simp] theorem storeImm20_encodeS20 (op : Opcode) (m25 m24 : Bool) (rb : Reg) (imm : BitVec 20) :
    storeImm20 (encodeS20 op m25 m24 rb imm) = imm := by
  have h : (encodeS20 op m25 m24 rb imm).extractLsb' 16 8 = imm.extractLsb' 12 8 := by
    simp [encodeS20, encodeHead, BitVec.extractLsb'_or, extractLsb'_putField_same, extractLsb'_putField_below,
      extractLsb'_putField_above]
  rw [storeImm20, h, low12_encodeS20]
  exact join_extractLsb' imm 12 8 rfl

end Sys2Proof
end

