-- ==== Sys2Proof/Laws/Memory.lean ====
section
/-!
SUPPORT. The laws of the byte map: a read after a write, and that every operation keeps the canonical form.
-/

namespace Sys2Proof.Machine

@[simp] theorem Memory.read_nil (a : Nat) : Memory.read [] a = Memory.blank := rfl

@[simp] theorem Memory.erase_nil (a : Nat) : Memory.erase [] a = [] := rfl

/-! ## Reads -/

theorem Memory.read_erase_same (m : Memory) (a : Nat) : (m.erase a).read a = Memory.blank := by
  induction m with
  | nil => rfl
  | cons cell m ih =>
    by_cases h : cell.1 = a
    · simpa [Memory.erase, h] using ih
    · simpa [Memory.erase, Memory.read, h] using ih

theorem Memory.read_erase_other (m : Memory) (a b : Nat) (hab : b ≠ a) : (m.erase a).read b = m.read b := by
  induction m with
  | nil => rfl
  | cons cell m ih =>
    by_cases h : cell.1 = a
    · have hb : cell.1 ≠ b := fun e => hab (e.symm.trans h)
      rw [Memory.erase, if_pos h, ih, Memory.read, if_neg hb]
    · simp only [Memory.erase, if_neg h, Memory.read, ih]

/-- No entry is at `a`. -/
theorem Memory.fst_ne_of_mem_erase (m : Memory) (a : Nat) (cell : Host.Cell) (h : cell ∈ m.erase a) :
    cell.1 ≠ a := by
  induction m with
  | nil => cases h
  | cons c m ih =>
    by_cases hc : c.1 = a
    · rw [Memory.erase, if_pos hc] at h
      exact ih h
    · rw [Memory.erase, if_neg hc] at h
      rcases List.mem_cons.mp h with rfl | h
      · exact hc
      · exact ih h

theorem Memory.mem_of_mem_erase (m : Memory) (a : Nat) (cell : Host.Cell) (h : cell ∈ m.erase a) : cell ∈ m := by
  induction m with
  | nil => cases h
  | cons c m ih =>
    by_cases hc : c.1 = a
    · rw [Memory.erase, if_pos hc] at h
      exact List.mem_cons_of_mem _ (ih h)
    · rw [Memory.erase, if_neg hc] at h
      rcases List.mem_cons.mp h with rfl | h
      · exact List.mem_cons_self
      · exact List.mem_cons_of_mem _ (ih h)

theorem Memory.read_insert_same (m : Memory) (a : Nat) (b : Byte) (h : ∀ cell ∈ m, cell.1 ≠ a) :
    (m.insert a b).read a = b := by
  induction m with
  | nil => simp [Memory.insert, Memory.read]
  | cons cell m ih =>
    have hc : cell.1 ≠ a := h cell List.mem_cons_self
    by_cases hl : a < cell.1
    · simp [Memory.insert, Memory.read, hl]
    · simp only [Memory.insert, if_neg hl, Memory.read, if_neg hc]
      exact ih fun c hm => h c (List.mem_cons_of_mem _ hm)

theorem Memory.read_insert_other (m : Memory) (a c : Nat) (b : Byte) (hca : c ≠ a) :
    (m.insert a b).read c = m.read c := by
  induction m with
  | nil => simp [Memory.insert, Memory.read, hca.symm]
  | cons cell m ih =>
    by_cases hl : a < cell.1
    · simp [Memory.insert, Memory.read, hl, hca.symm]
    · simp only [Memory.insert, if_neg hl, Memory.read, ih]

/-- Reading the byte just written (R44, R55). -/
@[simp] theorem Memory.read_write_same (m : Memory) (a : Nat) (b : Byte) : (m.write a b).read a = b := by
  unfold Memory.write
  split
  · next h => rw [Memory.read_erase_same, h]
  · exact Memory.read_insert_same _ a b fun cell h => Memory.fst_ne_of_mem_erase m a cell h

/-- Reading another byte (R44, R55). -/
theorem Memory.read_write_other (m : Memory) (a c : Nat) (b : Byte) (h : c ≠ a) :
    (m.write a b).read c = m.read c := by
  unfold Memory.write
  split
  · exact Memory.read_erase_other m a c h
  · rw [Memory.read_insert_other _ a c b h, Memory.read_erase_other m a c h]

/-- Reading any byte after a write. -/
theorem Memory.read_write (m : Memory) (a c : Nat) (b : Byte) :
    (m.write a b).read c = if c = a then b else m.read c := by
  split
  · next h => rw [h, Memory.read_write_same]
  · next h => exact Memory.read_write_other m a c b h

/-- A byte at an address that is not written keeps its value. -/
theorem Memory.read_writeAll_other (cells : List Host.Cell) (m : Memory) (a : Nat)
    (h : ∀ cell ∈ cells, cell.1 ≠ a) : (m.writeAll cells).read a = m.read a := by
  induction cells generalizing m with
  | nil => rfl
  | cons cell cells ih =>
    rw [Memory.writeAll, ih _ fun c hc => h c (List.mem_cons_of_mem _ hc)]
    exact Memory.read_write_other m cell.1 a cell.2 (h cell List.mem_cons_self).symm

/-- A byte that is written once, at its address. -/
theorem Memory.read_writeAll_mem (cells : List Host.Cell) (m : Memory) (cell : Host.Cell)
    (hn : (cells.map (·.1)).Nodup) (h : cell ∈ cells) : (m.writeAll cells).read cell.1 = cell.2 := by
  induction cells generalizing m with
  | nil => cases h
  | cons c cells ih =>
    rw [List.map_cons, List.nodup_cons] at hn
    rw [Memory.writeAll]
    rcases List.mem_cons.mp h with rfl | h
    · rw [Memory.read_writeAll_other, Memory.read_write_same]
      intro d hd e
      exact hn.1 (e ▸ List.mem_map_of_mem hd)
    · exact ih _ hn.2 h

/-! ## The canonical form -/

@[simp] theorem Memory.wf_nil : Memory.wf [] = true := rfl

/-- The canonical form of a list with a first entry. -/
theorem Memory.wf_cons (cell : Host.Cell) (m : Memory) :
    Memory.wf (cell :: m) = true ↔
      cell.1 < 2 ^ 32 ∧ cell.2 ≠ Memory.blank ∧ (∀ c ∈ m, cell.1 < c.1) ∧ m.wf = true := by
  simp only [Memory.wf, Bool.and_eq_true, decide_eq_true_eq, List.all_eq_true]
  tauto

theorem Memory.wf_erase (m : Memory) (a : Nat) (h : m.wf = true) : (m.erase a).wf = true := by
  induction m with
  | nil => rfl
  | cons cell m ih =>
    obtain ⟨h1, h2, h3, h4⟩ := (Memory.wf_cons cell m).mp h
    by_cases hc : cell.1 = a
    · rw [Memory.erase, if_pos hc]
      exact ih h4
    · rw [Memory.erase, if_neg hc]
      exact (Memory.wf_cons _ _).mpr
        ⟨h1, h2, fun c hm => h3 c (Memory.mem_of_mem_erase m a c hm), ih h4⟩

theorem Memory.mem_insert (m : Memory) (a : Nat) (b : Byte) (c : Host.Cell) (h : c ∈ m.insert a b) :
    c = (a, b) ∨ c ∈ m := by
  induction m with
  | nil =>
    rw [Memory.insert, List.mem_singleton] at h
    exact .inl h
  | cons cell m ih =>
    by_cases hl : a < cell.1
    · rw [Memory.insert, if_pos hl] at h
      exact List.mem_cons.mp h
    · rw [Memory.insert, if_neg hl] at h
      rcases List.mem_cons.mp h with rfl | h
      · exact .inr List.mem_cons_self
      · rcases ih h with rfl | h
        · exact .inl rfl
        · exact .inr (List.mem_cons_of_mem _ h)

theorem Memory.wf_insert (m : Memory) (a : Nat) (b : Byte) (h : m.wf = true) (ha : a < 2 ^ 32)
    (hb : b ≠ Memory.blank) (hn : ∀ cell ∈ m, cell.1 ≠ a) : (m.insert a b).wf = true := by
  induction m with
  | nil => exact (Memory.wf_cons _ _).mpr ⟨ha, hb, fun c hc => absurd hc List.not_mem_nil, rfl⟩
  | cons cell m ih =>
    obtain ⟨h1, h2, h3, h4⟩ := (Memory.wf_cons cell m).mp h
    by_cases hl : a < cell.1
    · rw [Memory.insert, if_pos hl]
      refine (Memory.wf_cons _ _).mpr ⟨ha, hb, fun c hc => ?_, h⟩
      rcases List.mem_cons.mp hc with rfl | hc
      · exact hl
      · exact lt_trans hl (h3 c hc)
    · rw [Memory.insert, if_neg hl]
      refine (Memory.wf_cons _ _).mpr ⟨h1, h2, fun c hc => ?_,
        ih h4 fun c hc => hn c (List.mem_cons_of_mem _ hc)⟩
      rcases Memory.mem_insert m a b c hc with rfl | hc
      · exact lt_of_le_of_ne (not_lt.mp hl) (hn cell List.mem_cons_self)
      · exact h3 c hc

/-- A write keeps the canonical form. -/
theorem Memory.wf_write (m : Memory) (a : Nat) (b : Byte) (h : m.wf = true) (ha : a < 2 ^ 32) :
    (m.write a b).wf = true := by
  unfold Memory.write
  split
  · exact Memory.wf_erase m a h
  · next hb =>
    exact Memory.wf_insert _ a b (Memory.wf_erase m a h) ha hb fun c hc => Memory.fst_ne_of_mem_erase m a c hc

/-- Several writes keep the canonical form. -/
theorem Memory.wf_writeAll (cells : List Host.Cell) (m : Memory) (h : m.wf = true)
    (hc : ∀ cell ∈ cells, cell.1 < 2 ^ 32) : (m.writeAll cells).wf = true := by
  induction cells generalizing m with
  | nil => exact h
  | cons cell cells ih =>
    exact ih _ (Memory.wf_write m cell.1 cell.2 h (hc cell List.mem_cons_self)) fun c hm =>
      hc c (List.mem_cons_of_mem _ hm)

end Sys2Proof.Machine
end

