-- ==== Sys2Proof/Laws/State.lean ====
section
/-!
SUPPORT. What each named update of the state leaves in each field, so that no later proof unfolds a record update.
-/

namespace Sys2Proof.Machine

@[simp] theorem State.setReg_x (s : State) (r : Reg) (v : Word) :
    (s.setReg r v).x = s.x.set r.toNat v r.isLt := rfl

@[simp] theorem State.setReg_flags (s : State) (r : Reg) (v : Word) :
    (s.setReg r v).flags = s.flags := rfl

@[simp] theorem State.setReg_pc (s : State) (r : Reg) (v : Word) :
    (s.setReg r v).pc = s.pc := rfl

@[simp] theorem State.setReg_mem (s : State) (r : Reg) (v : Word) :
    (s.setReg r v).mem = s.mem := rfl

@[simp] theorem State.setReg_cfg (s : State) (r : Reg) (v : Word) :
    (s.setReg r v).cfg = s.cfg := rfl

@[simp] theorem State.setFlags_x (s : State) (f : Flags) :
    (s.setFlags f).x = s.x := rfl

@[simp] theorem State.setFlags_flags (s : State) (f : Flags) :
    (s.setFlags f).flags = f := rfl

@[simp] theorem State.setFlags_pc (s : State) (f : Flags) :
    (s.setFlags f).pc = s.pc := rfl

@[simp] theorem State.setFlags_mem (s : State) (f : Flags) :
    (s.setFlags f).mem = s.mem := rfl

@[simp] theorem State.setFlags_cfg (s : State) (f : Flags) :
    (s.setFlags f).cfg = s.cfg := rfl

@[simp] theorem State.setPc_x (s : State) (v : Word) :
    (s.setPc v).x = s.x := rfl

@[simp] theorem State.setPc_flags (s : State) (v : Word) :
    (s.setPc v).flags = s.flags := rfl

@[simp] theorem State.setPc_pc (s : State) (v : Word) :
    (s.setPc v).pc = v := rfl

@[simp] theorem State.setPc_mem (s : State) (v : Word) :
    (s.setPc v).mem = s.mem := rfl

@[simp] theorem State.setPc_cfg (s : State) (v : Word) :
    (s.setPc v).cfg = s.cfg := rfl

@[simp] theorem State.setMem_x (s : State) (m : Memory) :
    (s.setMem m).x = s.x := rfl

@[simp] theorem State.setMem_flags (s : State) (m : Memory) :
    (s.setMem m).flags = s.flags := rfl

@[simp] theorem State.setMem_pc (s : State) (m : Memory) :
    (s.setMem m).pc = s.pc := rfl

@[simp] theorem State.setMem_mem (s : State) (m : Memory) :
    (s.setMem m).mem = m := rfl

@[simp] theorem State.setMem_cfg (s : State) (m : Memory) :
    (s.setMem m).cfg = s.cfg := rfl

@[simp] theorem State.advance_x (s : State) : (s.advance).x = s.x := rfl

@[simp] theorem State.advance_flags (s : State) : (s.advance).flags = s.flags := rfl

@[simp] theorem State.advance_pc (s : State) : (s.advance).pc = s.nextPc := rfl

@[simp] theorem State.advance_mem (s : State) : (s.advance).mem = s.mem := rfl

@[simp] theorem State.advance_cfg (s : State) : (s.advance).cfg = s.cfg := rfl

@[simp] theorem State.reg_setFlags (s : State) (f : Flags) (q : Reg) : (s.setFlags f).reg q = s.reg q := rfl

@[simp] theorem State.reg_setPc (s : State) (v : Word) (q : Reg) : (s.setPc v).reg q = s.reg q := rfl

@[simp] theorem State.reg_setMem (s : State) (m : Memory) (q : Reg) : (s.setMem m).reg q = s.reg q := rfl

@[simp] theorem State.reg_advance (s : State)  (q : Reg) : (s.advance).reg q = s.reg q := rfl

@[simp] theorem State.byteAt_setReg (s : State) (r : Reg) (v : Word) (a : Word) :
    (s.setReg r v).byteAt a = s.byteAt a := rfl

@[simp] theorem State.byteAt_setFlags (s : State) (f : Flags) (a : Word) :
    (s.setFlags f).byteAt a = s.byteAt a := rfl

@[simp] theorem State.byteAt_setPc (s : State) (v : Word) (a : Word) :
    (s.setPc v).byteAt a = s.byteAt a := rfl

@[simp] theorem State.byteAt_advance (s : State)  (a : Word) :
    (s.advance).byteAt a = s.byteAt a := rfl

@[simp] theorem State.mapped_setReg (s : State) (r : Reg) (v : Word) (a : Word) :
    (s.setReg r v).mapped a = s.mapped a := rfl

@[simp] theorem State.mapped_setFlags (s : State) (f : Flags) (a : Word) :
    (s.setFlags f).mapped a = s.mapped a := rfl

@[simp] theorem State.mapped_setPc (s : State) (v : Word) (a : Word) :
    (s.setPc v).mapped a = s.mapped a := rfl

@[simp] theorem State.mapped_setMem (s : State) (m : Memory) (a : Word) :
    (s.setMem m).mapped a = s.mapped a := rfl

@[simp] theorem State.mapped_advance (s : State)  (a : Word) :
    (s.advance).mapped a = s.mapped a := rfl

@[simp] theorem State.inText_setReg (s : State) (r : Reg) (v : Word) (a : Word) :
    (s.setReg r v).inText a = s.inText a := rfl

@[simp] theorem State.inText_setFlags (s : State) (f : Flags) (a : Word) :
    (s.setFlags f).inText a = s.inText a := rfl

@[simp] theorem State.inText_setPc (s : State) (v : Word) (a : Word) :
    (s.setPc v).inText a = s.inText a := rfl

@[simp] theorem State.inText_setMem (s : State) (m : Memory) (a : Word) :
    (s.setMem m).inText a = s.inText a := rfl

@[simp] theorem State.inText_advance (s : State)  (a : Word) :
    (s.advance).inText a = s.inText a := rfl

@[simp] theorem State.textProtected_setReg (s : State) (r : Reg) (v : Word) (a : Word) :
    (s.setReg r v).textProtected a = s.textProtected a := rfl

@[simp] theorem State.textProtected_setFlags (s : State) (f : Flags) (a : Word) :
    (s.setFlags f).textProtected a = s.textProtected a := rfl

@[simp] theorem State.textProtected_setPc (s : State) (v : Word) (a : Word) :
    (s.setPc v).textProtected a = s.textProtected a := rfl

@[simp] theorem State.textProtected_setMem (s : State) (m : Memory) (a : Word) :
    (s.setMem m).textProtected a = s.textProtected a := rfl

@[simp] theorem State.textProtected_advance (s : State)  (a : Word) :
    (s.advance).textProtected a = s.textProtected a := rfl

@[simp] theorem State.startsOutsideText_setReg (s : State) (r : Reg) (v : Word) :
    (s.setReg r v).startsOutsideText = s.startsOutsideText := rfl

@[simp] theorem State.startsOutsideText_setFlags (s : State) (f : Flags) :
    (s.setFlags f).startsOutsideText = s.startsOutsideText := rfl

@[simp] theorem State.startsOutsideText_setMem (s : State) (m : Memory) :
    (s.setMem m).startsOutsideText = s.startsOutsideText := rfl

/-- Reading the register just written (R8, R20). -/
@[simp] theorem State.reg_setReg_same (s : State) (r : Reg) (v : Word) : (s.setReg r v).reg r = v := by
  simp [State.reg, State.setReg]

/-- Reading another register (R8, R20). -/
theorem State.reg_setReg_other (s : State) (r q : Reg) (v : Word) (h : q ≠ r) :
    (s.setReg r v).reg q = s.reg q := by
  have hn : r.toNat ≠ q.toNat := fun e => h (BitVec.eq_of_toNat_eq e.symm)
  simp [State.reg, State.setReg, Vector.getElem_set_ne, hn]

/-- Reading any register after a write (R8, R20). -/
theorem State.reg_setReg (s : State) (r q : Reg) (v : Word) :
    (s.setReg r v).reg q = if q = r then v else s.reg q := by
  split
  · next h => rw [h, State.reg_setReg_same]
  · next h => exact State.reg_setReg_other s r q v h

/-- Every register reads 0 after reset (assumption 1). -/
@[simp] theorem State.reg_reset (r : Reg) : State.reset.reg r = 0 := by
  simp [State.reg, State.reset]

/-- Two states that agree on every register agree on the register file. -/
theorem State.x_eq_of_reg_eq (s t : State) (h : ∀ r : Reg, s.reg r = t.reg r) : s.x = t.x := by
  apply Vector.ext
  intro i hi
  have := h (BitVec.ofNat 4 i)
  simpa [State.reg, Nat.mod_eq_of_lt hi] using this

end Sys2Proof.Machine
end

