-- ==== Sys2Proof/Laws/Ops.lean ====
section
/-!
SUPPORT. One lemma for each shared operation that says everything it can do.
-/

namespace Sys2Proof.Machine

/-! ## Register and flag writes: always a next state -/

theorem writeReg_next (rd : Reg) (v : Word) (s t : State) :
    writeReg rd v s = .next t ↔ t = (s.setReg rd v).advance :=
  ⟨fun h => by cases h; rfl, fun h => by rw [h]; rfl⟩

theorem writeRegFlags_next (rd : Reg) (o : AluOut) (s t : State) :
    writeRegFlags rd o s = .next t ↔ t = ((s.setReg rd o.value).setFlags o.flags).advance :=
  ⟨fun h => by cases h; rfl, fun h => by rw [h]; rfl⟩

theorem writeFlagsOnly_next (o : AluOut) (s t : State) :
    writeFlagsOnly o s = .next t ↔ t = (s.setFlags o.flags).advance :=
  ⟨fun h => by cases h; rfl, fun h => by rw [h]; rfl⟩

theorem discard_next (o : AluOut) (s t : State) : discard o s = .next t ↔ t = s.advance :=
  ⟨fun h => by cases h; rfl, fun h => by rw [h]; rfl⟩

theorem branch_next (c : Cond) (target : Word) (s t : State) :
    branch c target s = .next t ↔
      t = s.setPc (if c.holds s.cfg.condLsLe s.flags then target else s.nextPc) :=
  ⟨fun h => by cases h; rfl, fun h => by rw [h]; rfl⟩

theorem jump_next (target : Word) (s t : State) : jump target s = .next t ↔ t = s.setPc target :=
  ⟨fun h => by cases h; rfl, fun h => by rw [h]; rfl⟩

theorem jumpLink_next (rd : Reg) (target : Word) (s t : State) :
    jumpLink rd target s = .next t ↔ t = (s.setReg rd s.nextPc).setPc target :=
  ⟨fun h => by cases h; rfl, fun h => by rw [h]; rfl⟩

/-! ## Accesses -/

theorem State.allMapped_iff (s : State) (addr : Word) (n : Nat) :
    s.allMapped addr n = true ↔ ∀ i, i < n → s.mapped (addr + BitVec.ofNat 32 i) = true := by
  simp [State.allMapped, byteAddrs]

theorem State.misaligned_eq_false_iff (s : State) (addr : Word) (w : Width) :
    s.misaligned addr w = false ↔ s.cfg.misalignedData = .allow ∨ addr.toNat % w.bytes = 0 := by
  unfold State.misaligned
  cases s.cfg.misalignedData <;> simp

/-- No fault stops a read exactly when the access is accessible (R43, R47, R51). -/
theorem State.readFault_eq_none_iff (s : State) (addr : Word) (w : Width) :
    s.readFault addr w = none ↔ accessible s w addr := by
  unfold State.readFault accessible
  rw [← State.misaligned_eq_false_iff, ← State.allMapped_iff]
  cases s.misaligned addr w <;> cases s.allMapped addr w.bytes <;> simp

theorem State.textProtected_eq_false_iff (s : State) (a : Word) :
    s.textProtected a = false ↔ s.cfg.fetchCoherence = .coherent ∨ s.inText a = false := by
  unfold State.textProtected
  cases s.cfg.fetchCoherence <;> simp

/-- No fault stops a write exactly when the access is writable (R44, R58). -/
theorem State.writeFault_eq_none_iff (s : State) (addr : Word) (w : Width) :
    s.writeFault addr w = none ↔ writable s w addr := by
  unfold State.writeFault writable
  rw [← State.readFault_eq_none_iff]
  cases h : s.readFault addr w with
  | some f => simp
  | none =>
    simp only [true_and, ← State.textProtected_eq_false_iff]
    simp [byteAddrs]

/-- A fetch answers a word exactly when pc is aligned, mapped and no RESET_PC outside the text, and then the word there
(R46, R48, R401). -/
theorem State.fetch_ok (s : State) (w : Word) :
    s.fetch = .ok w ↔
      s.pc.toNat % 4 = 0 ∧ (∀ i, i < 4 → s.mapped (s.pc + BitVec.ofNat 32 i) = true) ∧
        s.startsOutsideText = false ∧ w = BitVec.ofNat 32 (s.readValue s.pc 4) := by
  rw [← State.allMapped_iff, State.fetch]
  by_cases hp : s.pc.toNat % 4 = 0
  · cases s.allMapped s.pc 4 <;> cases s.startsOutsideText <;> simp [hp, eq_comm]
  · simp [hp]

/-- A load answers a next state exactly when the access is accessible, and then this one (R281). -/
theorem load_next (w : Width) (e : Extend) (rd : Reg) (ea : Word) (s t : State) :
    load w e rd ea s = .next t ↔
      accessible s w ea ∧ t = (s.setReg rd (e.widen w (s.readValue ea w.bytes))).advance := by
  rw [← State.readFault_eq_none_iff, load, State.memRead]
  cases s.readFault ea w with
  | some f => simp
  | none =>
    simp only [true_and]
    exact ⟨fun h => by cases h; rfl, fun h => by rw [h]⟩

/-- A store answers a next state exactly when the access is writable, and then this one (R282). -/
theorem store_next (w : Width) (rb : Reg) (ea : Word) (s t : State) :
    store w rb ea s = .next t ↔
      writable s w ea ∧ t = (s.pokeValue ea w.bytes (s.reg rb).u).advance := by
  rw [← State.writeFault_eq_none_iff, store, State.memWrite]
  cases s.writeFault ea w with
  | some f => simp
  | none =>
    simp only [true_and]
    exact ⟨fun h => by cases h; rfl, fun h => by rw [h]⟩

/-- A load's fault is the fault of its access (R375). -/
theorem load_fault (w : Width) (e : Extend) (rd : Reg) (ea : Word) (s : State) (f : Fault) :
    load w e rd ea s = .fault f ↔ s.readFault ea w = some f := by
  rw [load, State.memRead]
  cases s.readFault ea w with
  | some g => simp
  | none => simp

/-- A store's fault is the fault of its access (R375). -/
theorem store_fault (w : Width) (rb : Reg) (ea : Word) (s : State) (f : Fault) :
    store w rb ea s = .fault f ↔ s.writeFault ea w = some f := by
  rw [store, State.memWrite]
  cases s.writeFault ea w with
  | some g => simp
  | none => simp

/-! ## What a store does to memory -/

@[simp] theorem State.pokeValue_x (s : State) (addr : Word) (n v : Nat) : (s.pokeValue addr n v).x = s.x := rfl

@[simp] theorem State.pokeValue_flags (s : State) (addr : Word) (n v : Nat) :
    (s.pokeValue addr n v).flags = s.flags := rfl

@[simp] theorem State.pokeValue_pc (s : State) (addr : Word) (n v : Nat) : (s.pokeValue addr n v).pc = s.pc := rfl

@[simp] theorem State.pokeValue_cfg (s : State) (addr : Word) (n v : Nat) :
    (s.pokeValue addr n v).cfg = s.cfg := rfl

@[simp] theorem State.reg_pokeValue (s : State) (addr : Word) (n v : Nat) (r : Reg) :
    (s.pokeValue addr n v).reg r = s.reg r := rfl

/-- A byte outside the access keeps its value (R44). -/
theorem State.byteAt_pokeValue_other (s : State) (addr a : Word) (n v : Nat) (h : ¬ touches addr n a) :
    (s.pokeValue addr n v).byteAt a = s.byteAt a := by
  refine Memory.read_writeAll_other _ _ _ ?_
  intro cell hc e
  have hm := (List.of_mem_zip hc).1
  obtain ⟨b, hb, he⟩ := List.mem_map.mp hm
  obtain ⟨i, hi, hbi⟩ := (mem_byteAddrs addr b n).mp hb
  exact h ⟨i, hi, by rw [← hbi]; exact BitVec.eq_of_toNat_eq (e.symm.trans he.symm)⟩

/-- A store keeps the canonical form of the memory. -/
theorem State.wf_pokeValue (s : State) (addr : Word) (n v : Nat) (h : s.mem.wf = true) :
    (s.pokeValue addr n v).mem.wf = true := by
  refine Memory.wf_writeAll _ _ h ?_
  intro cell hc
  obtain ⟨b, _, he⟩ := List.mem_map.mp (List.of_mem_zip hc).1
  rw [← he]
  exact b.isLt

/-- The memory right after reset has the canonical form. -/
theorem State.wf_reset : State.reset.mem.wf = true := rfl

end Sys2Proof.Machine
end

