-- ==== Sys2Proof/Laws/PerInstr.lean ====
section
/-!
SUPPORT. The family RowMatch: the word of an instruction is one its own row of spec/opcode_table.json accepts, by
the row's mask and value (spec/30_encoding.md R92).
-/

namespace Sys2Proof

/-- The row of the instruction's mnemonic exists and accepts the instruction's word. -/
def Laws.RowMatch.Statement (i : Instr) : Prop :=
  ∃ row, rowOf i.mnemonic = some row ∧ row.accepts (encode i) = true

theorem Laws.RowMatch.mov (rd rb : Reg) : Laws.RowMatch.Statement (.mov rd rb) :=
  ⟨_, rfl, beq_iff_eq.mpr ((encodeRxR_and _ _ _ _ _).trans rfl)⟩

theorem Laws.RowMatch.movi (rd : Reg) (imm : BitVec 20) : Laws.RowMatch.Statement (.movi rd imm) :=
  ⟨_, rfl, beq_iff_eq.mpr ((encodeRI20_and _ _ _ _ _).trans rfl)⟩

theorem Laws.RowMatch.moviz (rd : Reg) (imm : BitVec 20) : Laws.RowMatch.Statement (.moviz rd imm) :=
  ⟨_, rfl, beq_iff_eq.mpr ((encodeRI20_and _ _ _ _ _).trans rfl)⟩

theorem Laws.RowMatch.add (rd ra rb : Reg) : Laws.RowMatch.Statement (.add rd ra rb) :=
  ⟨_, rfl, beq_iff_eq.mpr ((encodeRRR_and _ _ _ _ _ _).trans rfl)⟩

theorem Laws.RowMatch.adds (rd ra rb : Reg) : Laws.RowMatch.Statement (.adds rd ra rb) :=
  ⟨_, rfl, beq_iff_eq.mpr ((encodeRRR_and _ _ _ _ _ _).trans rfl)⟩

theorem Laws.RowMatch.addi (rd ra : Reg) (imm : BitVec 16) : Laws.RowMatch.Statement (.addi rd ra imm) :=
  ⟨_, rfl, beq_iff_eq.mpr ((encodeRRI16_and _ _ _ _ _ _).trans rfl)⟩

theorem Laws.RowMatch.addis (rd ra : Reg) (imm : BitVec 16) : Laws.RowMatch.Statement (.addis rd ra imm) :=
  ⟨_, rfl, beq_iff_eq.mpr ((encodeRRI16_and _ _ _ _ _ _).trans rfl)⟩

theorem Laws.RowMatch.sub (rd ra rb : Reg) : Laws.RowMatch.Statement (.sub rd ra rb) :=
  ⟨_, rfl, beq_iff_eq.mpr ((encodeRRR_and _ _ _ _ _ _).trans rfl)⟩

theorem Laws.RowMatch.subs (rd ra rb : Reg) : Laws.RowMatch.Statement (.subs rd ra rb) :=
  ⟨_, rfl, beq_iff_eq.mpr ((encodeRRR_and _ _ _ _ _ _).trans rfl)⟩

theorem Laws.RowMatch.subi (rd ra : Reg) (imm : BitVec 16) : Laws.RowMatch.Statement (.subi rd ra imm) :=
  ⟨_, rfl, beq_iff_eq.mpr ((encodeRRI16_and _ _ _ _ _ _).trans rfl)⟩

theorem Laws.RowMatch.subis (rd ra : Reg) (imm : BitVec 16) : Laws.RowMatch.Statement (.subis rd ra imm) :=
  ⟨_, rfl, beq_iff_eq.mpr ((encodeRRI16_and _ _ _ _ _ _).trans rfl)⟩

theorem Laws.RowMatch.mul (rd ra rb : Reg) : Laws.RowMatch.Statement (.mul rd ra rb) :=
  ⟨_, rfl, beq_iff_eq.mpr ((encodeRRR_and _ _ _ _ _ _).trans rfl)⟩

theorem Laws.RowMatch.muls (rd ra rb : Reg) : Laws.RowMatch.Statement (.muls rd ra rb) :=
  ⟨_, rfl, beq_iff_eq.mpr ((encodeRRR_and _ _ _ _ _ _).trans rfl)⟩

theorem Laws.RowMatch.muli (rd ra : Reg) (imm : BitVec 16) : Laws.RowMatch.Statement (.muli rd ra imm) :=
  ⟨_, rfl, beq_iff_eq.mpr ((encodeRRI16_and _ _ _ _ _ _).trans rfl)⟩

theorem Laws.RowMatch.mulis (rd ra : Reg) (imm : BitVec 16) : Laws.RowMatch.Statement (.mulis rd ra imm) :=
  ⟨_, rfl, beq_iff_eq.mpr ((encodeRRI16_and _ _ _ _ _ _).trans rfl)⟩

theorem Laws.RowMatch.mulh (rd ra rb : Reg) : Laws.RowMatch.Statement (.mulh rd ra rb) :=
  ⟨_, rfl, beq_iff_eq.mpr ((encodeRRR_and _ _ _ _ _ _).trans rfl)⟩

theorem Laws.RowMatch.mulhs (rd ra rb : Reg) : Laws.RowMatch.Statement (.mulhs rd ra rb) :=
  ⟨_, rfl, beq_iff_eq.mpr ((encodeRRR_and _ _ _ _ _ _).trans rfl)⟩

theorem Laws.RowMatch.mulhi (rd ra : Reg) (imm : BitVec 16) : Laws.RowMatch.Statement (.mulhi rd ra imm) :=
  ⟨_, rfl, beq_iff_eq.mpr ((encodeRRI16_and _ _ _ _ _ _).trans rfl)⟩

theorem Laws.RowMatch.mulhis (rd ra : Reg) (imm : BitVec 16) : Laws.RowMatch.Statement (.mulhis rd ra imm) :=
  ⟨_, rfl, beq_iff_eq.mpr ((encodeRRI16_and _ _ _ _ _ _).trans rfl)⟩

theorem Laws.RowMatch.mulhu (rd ra rb : Reg) : Laws.RowMatch.Statement (.mulhu rd ra rb) :=
  ⟨_, rfl, beq_iff_eq.mpr ((encodeRRR_and _ _ _ _ _ _).trans rfl)⟩

theorem Laws.RowMatch.mulhus (rd ra rb : Reg) : Laws.RowMatch.Statement (.mulhus rd ra rb) :=
  ⟨_, rfl, beq_iff_eq.mpr ((encodeRRR_and _ _ _ _ _ _).trans rfl)⟩

theorem Laws.RowMatch.mulhui (rd ra : Reg) (imm : BitVec 16) : Laws.RowMatch.Statement (.mulhui rd ra imm) :=
  ⟨_, rfl, beq_iff_eq.mpr ((encodeRRI16_and _ _ _ _ _ _).trans rfl)⟩

theorem Laws.RowMatch.mulhuis (rd ra : Reg) (imm : BitVec 16) : Laws.RowMatch.Statement (.mulhuis rd ra imm) :=
  ⟨_, rfl, beq_iff_eq.mpr ((encodeRRI16_and _ _ _ _ _ _).trans rfl)⟩

theorem Laws.RowMatch.mulfx (rd ra rb : Reg) : Laws.RowMatch.Statement (.mulfx rd ra rb) :=
  ⟨_, rfl, beq_iff_eq.mpr ((encodeRRR_and _ _ _ _ _ _).trans rfl)⟩

theorem Laws.RowMatch.mulfxs (rd ra rb : Reg) : Laws.RowMatch.Statement (.mulfxs rd ra rb) :=
  ⟨_, rfl, beq_iff_eq.mpr ((encodeRRR_and _ _ _ _ _ _).trans rfl)⟩

theorem Laws.RowMatch.mulfxi (rd ra : Reg) (imm : BitVec 16) : Laws.RowMatch.Statement (.mulfxi rd ra imm) :=
  ⟨_, rfl, beq_iff_eq.mpr ((encodeRRI16_and _ _ _ _ _ _).trans rfl)⟩

theorem Laws.RowMatch.mulfxis (rd ra : Reg) (imm : BitVec 16) : Laws.RowMatch.Statement (.mulfxis rd ra imm) :=
  ⟨_, rfl, beq_iff_eq.mpr ((encodeRRI16_and _ _ _ _ _ _).trans rfl)⟩

theorem Laws.RowMatch.div (rd ra rb : Reg) : Laws.RowMatch.Statement (.div rd ra rb) :=
  ⟨_, rfl, beq_iff_eq.mpr ((encodeRRR_and _ _ _ _ _ _).trans rfl)⟩

theorem Laws.RowMatch.divs (rd ra rb : Reg) : Laws.RowMatch.Statement (.divs rd ra rb) :=
  ⟨_, rfl, beq_iff_eq.mpr ((encodeRRR_and _ _ _ _ _ _).trans rfl)⟩

theorem Laws.RowMatch.divi (rd ra : Reg) (imm : BitVec 16) : Laws.RowMatch.Statement (.divi rd ra imm) :=
  ⟨_, rfl, beq_iff_eq.mpr ((encodeRRI16_and _ _ _ _ _ _).trans rfl)⟩

theorem Laws.RowMatch.divis (rd ra : Reg) (imm : BitVec 16) : Laws.RowMatch.Statement (.divis rd ra imm) :=
  ⟨_, rfl, beq_iff_eq.mpr ((encodeRRI16_and _ _ _ _ _ _).trans rfl)⟩

theorem Laws.RowMatch.divu (rd ra rb : Reg) : Laws.RowMatch.Statement (.divu rd ra rb) :=
  ⟨_, rfl, beq_iff_eq.mpr ((encodeRRR_and _ _ _ _ _ _).trans rfl)⟩

theorem Laws.RowMatch.divus (rd ra rb : Reg) : Laws.RowMatch.Statement (.divus rd ra rb) :=
  ⟨_, rfl, beq_iff_eq.mpr ((encodeRRR_and _ _ _ _ _ _).trans rfl)⟩

theorem Laws.RowMatch.divui (rd ra : Reg) (imm : BitVec 16) : Laws.RowMatch.Statement (.divui rd ra imm) :=
  ⟨_, rfl, beq_iff_eq.mpr ((encodeRRI16_and _ _ _ _ _ _).trans rfl)⟩

theorem Laws.RowMatch.divuis (rd ra : Reg) (imm : BitVec 16) : Laws.RowMatch.Statement (.divuis rd ra imm) :=
  ⟨_, rfl, beq_iff_eq.mpr ((encodeRRI16_and _ _ _ _ _ _).trans rfl)⟩

theorem Laws.RowMatch.mod (rd ra rb : Reg) : Laws.RowMatch.Statement (.mod rd ra rb) :=
  ⟨_, rfl, beq_iff_eq.mpr ((encodeRRR_and _ _ _ _ _ _).trans rfl)⟩

theorem Laws.RowMatch.mods (rd ra rb : Reg) : Laws.RowMatch.Statement (.mods rd ra rb) :=
  ⟨_, rfl, beq_iff_eq.mpr ((encodeRRR_and _ _ _ _ _ _).trans rfl)⟩

theorem Laws.RowMatch.modi (rd ra : Reg) (imm : BitVec 16) : Laws.RowMatch.Statement (.modi rd ra imm) :=
  ⟨_, rfl, beq_iff_eq.mpr ((encodeRRI16_and _ _ _ _ _ _).trans rfl)⟩

theorem Laws.RowMatch.modis (rd ra : Reg) (imm : BitVec 16) : Laws.RowMatch.Statement (.modis rd ra imm) :=
  ⟨_, rfl, beq_iff_eq.mpr ((encodeRRI16_and _ _ _ _ _ _).trans rfl)⟩

theorem Laws.RowMatch.modu (rd ra rb : Reg) : Laws.RowMatch.Statement (.modu rd ra rb) :=
  ⟨_, rfl, beq_iff_eq.mpr ((encodeRRR_and _ _ _ _ _ _).trans rfl)⟩

theorem Laws.RowMatch.modus (rd ra rb : Reg) : Laws.RowMatch.Statement (.modus rd ra rb) :=
  ⟨_, rfl, beq_iff_eq.mpr ((encodeRRR_and _ _ _ _ _ _).trans rfl)⟩

theorem Laws.RowMatch.modui (rd ra : Reg) (imm : BitVec 16) : Laws.RowMatch.Statement (.modui rd ra imm) :=
  ⟨_, rfl, beq_iff_eq.mpr ((encodeRRI16_and _ _ _ _ _ _).trans rfl)⟩

theorem Laws.RowMatch.moduis (rd ra : Reg) (imm : BitVec 16) : Laws.RowMatch.Statement (.moduis rd ra imm) :=
  ⟨_, rfl, beq_iff_eq.mpr ((encodeRRI16_and _ _ _ _ _ _).trans rfl)⟩

theorem Laws.RowMatch.shl (rd ra rb : Reg) : Laws.RowMatch.Statement (.shl rd ra rb) :=
  ⟨_, rfl, beq_iff_eq.mpr ((encodeRRR_and _ _ _ _ _ _).trans rfl)⟩

theorem Laws.RowMatch.shls (rd ra rb : Reg) : Laws.RowMatch.Statement (.shls rd ra rb) :=
  ⟨_, rfl, beq_iff_eq.mpr ((encodeRRR_and _ _ _ _ _ _).trans rfl)⟩

theorem Laws.RowMatch.shli (rd ra : Reg) (imm : BitVec 16) : Laws.RowMatch.Statement (.shli rd ra imm) :=
  ⟨_, rfl, beq_iff_eq.mpr ((encodeRRI16_and _ _ _ _ _ _).trans rfl)⟩

theorem Laws.RowMatch.shlis (rd ra : Reg) (imm : BitVec 16) : Laws.RowMatch.Statement (.shlis rd ra imm) :=
  ⟨_, rfl, beq_iff_eq.mpr ((encodeRRI16_and _ _ _ _ _ _).trans rfl)⟩

theorem Laws.RowMatch.asr (rd ra rb : Reg) : Laws.RowMatch.Statement (.asr rd ra rb) :=
  ⟨_, rfl, beq_iff_eq.mpr ((encodeRRR_and _ _ _ _ _ _).trans rfl)⟩

theorem Laws.RowMatch.asrs (rd ra rb : Reg) : Laws.RowMatch.Statement (.asrs rd ra rb) :=
  ⟨_, rfl, beq_iff_eq.mpr ((encodeRRR_and _ _ _ _ _ _).trans rfl)⟩

theorem Laws.RowMatch.asri (rd ra : Reg) (imm : BitVec 16) : Laws.RowMatch.Statement (.asri rd ra imm) :=
  ⟨_, rfl, beq_iff_eq.mpr ((encodeRRI16_and _ _ _ _ _ _).trans rfl)⟩

theorem Laws.RowMatch.asris (rd ra : Reg) (imm : BitVec 16) : Laws.RowMatch.Statement (.asris rd ra imm) :=
  ⟨_, rfl, beq_iff_eq.mpr ((encodeRRI16_and _ _ _ _ _ _).trans rfl)⟩

theorem Laws.RowMatch.lsr (rd ra rb : Reg) : Laws.RowMatch.Statement (.lsr rd ra rb) :=
  ⟨_, rfl, beq_iff_eq.mpr ((encodeRRR_and _ _ _ _ _ _).trans rfl)⟩

theorem Laws.RowMatch.lsrs (rd ra rb : Reg) : Laws.RowMatch.Statement (.lsrs rd ra rb) :=
  ⟨_, rfl, beq_iff_eq.mpr ((encodeRRR_and _ _ _ _ _ _).trans rfl)⟩

theorem Laws.RowMatch.lsri (rd ra : Reg) (imm : BitVec 16) : Laws.RowMatch.Statement (.lsri rd ra imm) :=
  ⟨_, rfl, beq_iff_eq.mpr ((encodeRRI16_and _ _ _ _ _ _).trans rfl)⟩

theorem Laws.RowMatch.lsris (rd ra : Reg) (imm : BitVec 16) : Laws.RowMatch.Statement (.lsris rd ra imm) :=
  ⟨_, rfl, beq_iff_eq.mpr ((encodeRRI16_and _ _ _ _ _ _).trans rfl)⟩

theorem Laws.RowMatch.rol (rd ra rb : Reg) : Laws.RowMatch.Statement (.rol rd ra rb) :=
  ⟨_, rfl, beq_iff_eq.mpr ((encodeRRR_and _ _ _ _ _ _).trans rfl)⟩

theorem Laws.RowMatch.rols (rd ra rb : Reg) : Laws.RowMatch.Statement (.rols rd ra rb) :=
  ⟨_, rfl, beq_iff_eq.mpr ((encodeRRR_and _ _ _ _ _ _).trans rfl)⟩

theorem Laws.RowMatch.roli (rd ra : Reg) (imm : BitVec 16) : Laws.RowMatch.Statement (.roli rd ra imm) :=
  ⟨_, rfl, beq_iff_eq.mpr ((encodeRRI16_and _ _ _ _ _ _).trans rfl)⟩

theorem Laws.RowMatch.rolis (rd ra : Reg) (imm : BitVec 16) : Laws.RowMatch.Statement (.rolis rd ra imm) :=
  ⟨_, rfl, beq_iff_eq.mpr ((encodeRRI16_and _ _ _ _ _ _).trans rfl)⟩

theorem Laws.RowMatch.ror (rd ra rb : Reg) : Laws.RowMatch.Statement (.ror rd ra rb) :=
  ⟨_, rfl, beq_iff_eq.mpr ((encodeRRR_and _ _ _ _ _ _).trans rfl)⟩

theorem Laws.RowMatch.rors (rd ra rb : Reg) : Laws.RowMatch.Statement (.rors rd ra rb) :=
  ⟨_, rfl, beq_iff_eq.mpr ((encodeRRR_and _ _ _ _ _ _).trans rfl)⟩

theorem Laws.RowMatch.rori (rd ra : Reg) (imm : BitVec 16) : Laws.RowMatch.Statement (.rori rd ra imm) :=
  ⟨_, rfl, beq_iff_eq.mpr ((encodeRRI16_and _ _ _ _ _ _).trans rfl)⟩

theorem Laws.RowMatch.roris (rd ra : Reg) (imm : BitVec 16) : Laws.RowMatch.Statement (.roris rd ra imm) :=
  ⟨_, rfl, beq_iff_eq.mpr ((encodeRRI16_and _ _ _ _ _ _).trans rfl)⟩

theorem Laws.RowMatch.and (rd ra rb : Reg) : Laws.RowMatch.Statement (.and rd ra rb) :=
  ⟨_, rfl, beq_iff_eq.mpr ((encodeRRR_and _ _ _ _ _ _).trans rfl)⟩

theorem Laws.RowMatch.ands (rd ra rb : Reg) : Laws.RowMatch.Statement (.ands rd ra rb) :=
  ⟨_, rfl, beq_iff_eq.mpr ((encodeRRR_and _ _ _ _ _ _).trans rfl)⟩

theorem Laws.RowMatch.andi (rd ra : Reg) (imm : BitVec 16) : Laws.RowMatch.Statement (.andi rd ra imm) :=
  ⟨_, rfl, beq_iff_eq.mpr ((encodeRRI16_and _ _ _ _ _ _).trans rfl)⟩

theorem Laws.RowMatch.andis (rd ra : Reg) (imm : BitVec 16) : Laws.RowMatch.Statement (.andis rd ra imm) :=
  ⟨_, rfl, beq_iff_eq.mpr ((encodeRRI16_and _ _ _ _ _ _).trans rfl)⟩

theorem Laws.RowMatch.or (rd ra rb : Reg) : Laws.RowMatch.Statement (.or rd ra rb) :=
  ⟨_, rfl, beq_iff_eq.mpr ((encodeRRR_and _ _ _ _ _ _).trans rfl)⟩

theorem Laws.RowMatch.ors (rd ra rb : Reg) : Laws.RowMatch.Statement (.ors rd ra rb) :=
  ⟨_, rfl, beq_iff_eq.mpr ((encodeRRR_and _ _ _ _ _ _).trans rfl)⟩

theorem Laws.RowMatch.ori (rd ra : Reg) (imm : BitVec 16) : Laws.RowMatch.Statement (.ori rd ra imm) :=
  ⟨_, rfl, beq_iff_eq.mpr ((encodeRRI16_and _ _ _ _ _ _).trans rfl)⟩

theorem Laws.RowMatch.oris (rd ra : Reg) (imm : BitVec 16) : Laws.RowMatch.Statement (.oris rd ra imm) :=
  ⟨_, rfl, beq_iff_eq.mpr ((encodeRRI16_and _ _ _ _ _ _).trans rfl)⟩

theorem Laws.RowMatch.xor (rd ra rb : Reg) : Laws.RowMatch.Statement (.xor rd ra rb) :=
  ⟨_, rfl, beq_iff_eq.mpr ((encodeRRR_and _ _ _ _ _ _).trans rfl)⟩

theorem Laws.RowMatch.xors (rd ra rb : Reg) : Laws.RowMatch.Statement (.xors rd ra rb) :=
  ⟨_, rfl, beq_iff_eq.mpr ((encodeRRR_and _ _ _ _ _ _).trans rfl)⟩

theorem Laws.RowMatch.xori (rd ra : Reg) (imm : BitVec 16) : Laws.RowMatch.Statement (.xori rd ra imm) :=
  ⟨_, rfl, beq_iff_eq.mpr ((encodeRRI16_and _ _ _ _ _ _).trans rfl)⟩

theorem Laws.RowMatch.xoris (rd ra : Reg) (imm : BitVec 16) : Laws.RowMatch.Statement (.xoris rd ra imm) :=
  ⟨_, rfl, beq_iff_eq.mpr ((encodeRRI16_and _ _ _ _ _ _).trans rfl)⟩

theorem Laws.RowMatch.movh (rd : Reg) (imm : BitVec 16) : Laws.RowMatch.Statement (.movh rd imm) :=
  ⟨_, rfl, beq_iff_eq.mpr ((encodeRxI16_and _ _ _ _ _).trans rfl)⟩

theorem Laws.RowMatch.movhl (rd : Reg) (imm : BitVec 20) : Laws.RowMatch.Statement (.movhl rd imm) :=
  ⟨_, rfl, beq_iff_eq.mpr ((encodeRI20_and _ _ _ _ _).trans rfl)⟩

theorem Laws.RowMatch.cmp (ra rb : Reg) : Laws.RowMatch.Statement (.cmp ra rb) :=
  ⟨_, rfl, beq_iff_eq.mpr ((encodeXRR_and _ _ _ _ _).trans rfl)⟩

theorem Laws.RowMatch.cmps (ra rb : Reg) : Laws.RowMatch.Statement (.cmps ra rb) :=
  ⟨_, rfl, beq_iff_eq.mpr ((encodeXRR_and _ _ _ _ _).trans rfl)⟩

theorem Laws.RowMatch.cmpi (ra : Reg) (imm : BitVec 16) : Laws.RowMatch.Statement (.cmpi ra imm) :=
  ⟨_, rfl, beq_iff_eq.mpr ((encodeXRI16_and _ _ _ _ _).trans rfl)⟩

theorem Laws.RowMatch.cmpis (ra : Reg) (imm : BitVec 16) : Laws.RowMatch.Statement (.cmpis ra imm) :=
  ⟨_, rfl, beq_iff_eq.mpr ((encodeXRI16_and _ _ _ _ _).trans rfl)⟩

theorem Laws.RowMatch.bchk (ra rb : Reg) : Laws.RowMatch.Statement (.bchk ra rb) :=
  ⟨_, rfl, beq_iff_eq.mpr ((encodeXRR_and _ _ _ _ _).trans rfl)⟩

theorem Laws.RowMatch.bchks (ra rb : Reg) : Laws.RowMatch.Statement (.bchks ra rb) :=
  ⟨_, rfl, beq_iff_eq.mpr ((encodeXRR_and _ _ _ _ _).trans rfl)⟩

theorem Laws.RowMatch.bchki (ra : Reg) (imm : BitVec 16) : Laws.RowMatch.Statement (.bchki ra imm) :=
  ⟨_, rfl, beq_iff_eq.mpr ((encodeXRI16_and _ _ _ _ _).trans rfl)⟩

theorem Laws.RowMatch.bchkis (ra : Reg) (imm : BitVec 16) : Laws.RowMatch.Statement (.bchkis ra imm) :=
  ⟨_, rfl, beq_iff_eq.mpr ((encodeXRI16_and _ _ _ _ _).trans rfl)⟩

theorem Laws.RowMatch.not (rd rb : Reg) : Laws.RowMatch.Statement (.not rd rb) :=
  ⟨_, rfl, beq_iff_eq.mpr ((encodeRxR_and _ _ _ _ _).trans rfl)⟩

theorem Laws.RowMatch.nots (rd rb : Reg) : Laws.RowMatch.Statement (.nots rd rb) :=
  ⟨_, rfl, beq_iff_eq.mpr ((encodeRxR_and _ _ _ _ _).trans rfl)⟩

theorem Laws.RowMatch.noti (rd : Reg) (imm : BitVec 20) : Laws.RowMatch.Statement (.noti rd imm) :=
  ⟨_, rfl, beq_iff_eq.mpr ((encodeRI20_and _ _ _ _ _).trans rfl)⟩

theorem Laws.RowMatch.notis (rd : Reg) (imm : BitVec 20) : Laws.RowMatch.Statement (.notis rd imm) :=
  ⟨_, rfl, beq_iff_eq.mpr ((encodeRI20_and _ _ _ _ _).trans rfl)⟩

theorem Laws.RowMatch.ldr (rd ra : Reg) (imm : BitVec 16) : Laws.RowMatch.Statement (.ldr rd ra imm) :=
  ⟨_, rfl, beq_iff_eq.mpr ((encodeRRI16_and _ _ _ _ _ _).trans rfl)⟩

theorem Laws.RowMatch.ldri (rd : Reg) (imm : BitVec 20) : Laws.RowMatch.Statement (.ldri rd imm) :=
  ⟨_, rfl, beq_iff_eq.mpr ((encodeRI20_and _ _ _ _ _).trans rfl)⟩

theorem Laws.RowMatch.ldrr (rd : Reg) (imm : BitVec 20) : Laws.RowMatch.Statement (.ldrr rd imm) :=
  ⟨_, rfl, beq_iff_eq.mpr ((encodeRI20_and _ _ _ _ _).trans rfl)⟩

theorem Laws.RowMatch.ldrb (rd ra : Reg) (imm : BitVec 16) : Laws.RowMatch.Statement (.ldrb rd ra imm) :=
  ⟨_, rfl, beq_iff_eq.mpr ((encodeRRI16_and _ _ _ _ _ _).trans rfl)⟩

theorem Laws.RowMatch.ldrbi (rd : Reg) (imm : BitVec 20) : Laws.RowMatch.Statement (.ldrbi rd imm) :=
  ⟨_, rfl, beq_iff_eq.mpr ((encodeRI20_and _ _ _ _ _).trans rfl)⟩

theorem Laws.RowMatch.ldrbr (rd : Reg) (imm : BitVec 20) : Laws.RowMatch.Statement (.ldrbr rd imm) :=
  ⟨_, rfl, beq_iff_eq.mpr ((encodeRI20_and _ _ _ _ _).trans rfl)⟩

theorem Laws.RowMatch.ldrsb (rd ra : Reg) (imm : BitVec 16) : Laws.RowMatch.Statement (.ldrsb rd ra imm) :=
  ⟨_, rfl, beq_iff_eq.mpr ((encodeRRI16_and _ _ _ _ _ _).trans rfl)⟩

theorem Laws.RowMatch.ldrsbi (rd : Reg) (imm : BitVec 20) : Laws.RowMatch.Statement (.ldrsbi rd imm) :=
  ⟨_, rfl, beq_iff_eq.mpr ((encodeRI20_and _ _ _ _ _).trans rfl)⟩

theorem Laws.RowMatch.ldrsbr (rd : Reg) (imm : BitVec 20) : Laws.RowMatch.Statement (.ldrsbr rd imm) :=
  ⟨_, rfl, beq_iff_eq.mpr ((encodeRI20_and _ _ _ _ _).trans rfl)⟩

theorem Laws.RowMatch.ldrh (rd ra : Reg) (imm : BitVec 16) : Laws.RowMatch.Statement (.ldrh rd ra imm) :=
  ⟨_, rfl, beq_iff_eq.mpr ((encodeRRI16_and _ _ _ _ _ _).trans rfl)⟩

theorem Laws.RowMatch.ldrhi (rd : Reg) (imm : BitVec 20) : Laws.RowMatch.Statement (.ldrhi rd imm) :=
  ⟨_, rfl, beq_iff_eq.mpr ((encodeRI20_and _ _ _ _ _).trans rfl)⟩

theorem Laws.RowMatch.ldrhr (rd : Reg) (imm : BitVec 20) : Laws.RowMatch.Statement (.ldrhr rd imm) :=
  ⟨_, rfl, beq_iff_eq.mpr ((encodeRI20_and _ _ _ _ _).trans rfl)⟩

theorem Laws.RowMatch.ldrsh (rd ra : Reg) (imm : BitVec 16) : Laws.RowMatch.Statement (.ldrsh rd ra imm) :=
  ⟨_, rfl, beq_iff_eq.mpr ((encodeRRI16_and _ _ _ _ _ _).trans rfl)⟩

theorem Laws.RowMatch.ldrshi (rd : Reg) (imm : BitVec 20) : Laws.RowMatch.Statement (.ldrshi rd imm) :=
  ⟨_, rfl, beq_iff_eq.mpr ((encodeRI20_and _ _ _ _ _).trans rfl)⟩

theorem Laws.RowMatch.ldrshr (rd : Reg) (imm : BitVec 20) : Laws.RowMatch.Statement (.ldrshr rd imm) :=
  ⟨_, rfl, beq_iff_eq.mpr ((encodeRI20_and _ _ _ _ _).trans rfl)⟩

theorem Laws.RowMatch.str (rb ra : Reg) (imm : BitVec 16) : Laws.RowMatch.Statement (.str rb ra imm) :=
  ⟨_, rfl, beq_iff_eq.mpr ((encodeSD16_and _ _ _ _ _ _).trans rfl)⟩

theorem Laws.RowMatch.stri (rb : Reg) (imm : BitVec 20) : Laws.RowMatch.Statement (.stri rb imm) :=
  ⟨_, rfl, beq_iff_eq.mpr ((encodeS20_and _ _ _ _ _).trans rfl)⟩

theorem Laws.RowMatch.strr (rb : Reg) (imm : BitVec 20) : Laws.RowMatch.Statement (.strr rb imm) :=
  ⟨_, rfl, beq_iff_eq.mpr ((encodeS20_and _ _ _ _ _).trans rfl)⟩

theorem Laws.RowMatch.strb (rb ra : Reg) (imm : BitVec 16) : Laws.RowMatch.Statement (.strb rb ra imm) :=
  ⟨_, rfl, beq_iff_eq.mpr ((encodeSD16_and _ _ _ _ _ _).trans rfl)⟩

theorem Laws.RowMatch.strbi (rb : Reg) (imm : BitVec 20) : Laws.RowMatch.Statement (.strbi rb imm) :=
  ⟨_, rfl, beq_iff_eq.mpr ((encodeS20_and _ _ _ _ _).trans rfl)⟩

theorem Laws.RowMatch.strbr (rb : Reg) (imm : BitVec 20) : Laws.RowMatch.Statement (.strbr rb imm) :=
  ⟨_, rfl, beq_iff_eq.mpr ((encodeS20_and _ _ _ _ _).trans rfl)⟩

theorem Laws.RowMatch.strh (rb ra : Reg) (imm : BitVec 16) : Laws.RowMatch.Statement (.strh rb ra imm) :=
  ⟨_, rfl, beq_iff_eq.mpr ((encodeSD16_and _ _ _ _ _ _).trans rfl)⟩

theorem Laws.RowMatch.strhi (rb : Reg) (imm : BitVec 20) : Laws.RowMatch.Statement (.strhi rb imm) :=
  ⟨_, rfl, beq_iff_eq.mpr ((encodeS20_and _ _ _ _ _).trans rfl)⟩

theorem Laws.RowMatch.strhr (rb : Reg) (imm : BitVec 20) : Laws.RowMatch.Statement (.strhr rb imm) :=
  ⟨_, rfl, beq_iff_eq.mpr ((encodeS20_and _ _ _ _ _).trans rfl)⟩

theorem Laws.RowMatch.beq (imm : BitVec 22) : Laws.RowMatch.Statement (.beq imm) :=
  ⟨_, rfl, beq_iff_eq.mpr ((encodeB_and _ _).trans rfl)⟩

theorem Laws.RowMatch.bne (imm : BitVec 22) : Laws.RowMatch.Statement (.bne imm) :=
  ⟨_, rfl, beq_iff_eq.mpr ((encodeB_and _ _).trans rfl)⟩

theorem Laws.RowMatch.bcs (imm : BitVec 22) : Laws.RowMatch.Statement (.bcs imm) :=
  ⟨_, rfl, beq_iff_eq.mpr ((encodeB_and _ _).trans rfl)⟩

theorem Laws.RowMatch.bcc (imm : BitVec 22) : Laws.RowMatch.Statement (.bcc imm) :=
  ⟨_, rfl, beq_iff_eq.mpr ((encodeB_and _ _).trans rfl)⟩

theorem Laws.RowMatch.bmi (imm : BitVec 22) : Laws.RowMatch.Statement (.bmi imm) :=
  ⟨_, rfl, beq_iff_eq.mpr ((encodeB_and _ _).trans rfl)⟩

theorem Laws.RowMatch.bpl (imm : BitVec 22) : Laws.RowMatch.Statement (.bpl imm) :=
  ⟨_, rfl, beq_iff_eq.mpr ((encodeB_and _ _).trans rfl)⟩

theorem Laws.RowMatch.bvs (imm : BitVec 22) : Laws.RowMatch.Statement (.bvs imm) :=
  ⟨_, rfl, beq_iff_eq.mpr ((encodeB_and _ _).trans rfl)⟩

theorem Laws.RowMatch.bvc (imm : BitVec 22) : Laws.RowMatch.Statement (.bvc imm) :=
  ⟨_, rfl, beq_iff_eq.mpr ((encodeB_and _ _).trans rfl)⟩

theorem Laws.RowMatch.bhi (imm : BitVec 22) : Laws.RowMatch.Statement (.bhi imm) :=
  ⟨_, rfl, beq_iff_eq.mpr ((encodeB_and _ _).trans rfl)⟩

theorem Laws.RowMatch.bls (imm : BitVec 22) : Laws.RowMatch.Statement (.bls imm) :=
  ⟨_, rfl, beq_iff_eq.mpr ((encodeB_and _ _).trans rfl)⟩

theorem Laws.RowMatch.bge (imm : BitVec 22) : Laws.RowMatch.Statement (.bge imm) :=
  ⟨_, rfl, beq_iff_eq.mpr ((encodeB_and _ _).trans rfl)⟩

theorem Laws.RowMatch.blt (imm : BitVec 22) : Laws.RowMatch.Statement (.blt imm) :=
  ⟨_, rfl, beq_iff_eq.mpr ((encodeB_and _ _).trans rfl)⟩

theorem Laws.RowMatch.bgt (imm : BitVec 22) : Laws.RowMatch.Statement (.bgt imm) :=
  ⟨_, rfl, beq_iff_eq.mpr ((encodeB_and _ _).trans rfl)⟩

theorem Laws.RowMatch.ble (imm : BitVec 22) : Laws.RowMatch.Statement (.ble imm) :=
  ⟨_, rfl, beq_iff_eq.mpr ((encodeB_and _ _).trans rfl)⟩

theorem Laws.RowMatch.bal (imm : BitVec 22) : Laws.RowMatch.Statement (.bal imm) :=
  ⟨_, rfl, beq_iff_eq.mpr ((encodeB_and _ _).trans rfl)⟩

theorem Laws.RowMatch.jmp (ra : Reg) (imm : BitVec 16) : Laws.RowMatch.Statement (.jmp ra imm) :=
  ⟨_, rfl, beq_iff_eq.mpr ((encodeXRI16_and _ _ _ _ _).trans rfl)⟩

theorem Laws.RowMatch.jmpi (imm : BitVec 24) : Laws.RowMatch.Statement (.jmpi imm) :=
  ⟨_, rfl, beq_iff_eq.mpr ((encodeI24_and _ _ _ _).trans rfl)⟩

theorem Laws.RowMatch.jmpl (rd ra : Reg) (imm : BitVec 16) : Laws.RowMatch.Statement (.jmpl rd ra imm) :=
  ⟨_, rfl, beq_iff_eq.mpr ((encodeRRI16_and _ _ _ _ _ _).trans rfl)⟩

theorem Laws.RowMatch.jmpil (rd : Reg) (imm : BitVec 20) : Laws.RowMatch.Statement (.jmpil rd imm) :=
  ⟨_, rfl, beq_iff_eq.mpr ((encodeRI20_and _ _ _ _ _).trans rfl)⟩

end Sys2Proof
end

