-- ==== Sys2Proof/Tests/Slice0.lean ====
section
/-!
SUPPORT. The model's own tests. Every word and every expected value is the spec's: the examples of spec/30_encoding.md
and of the instruction rules, and the vectors of spec/96_test_vectors_derived.md. Then the refusals of the
well-formedness checks, and for each statement with hypotheses a state that meets them.
-/

namespace Sys2Proof.Tests

open Sys2Proof.Machine

/-! ## Decoding: words from the rules' encodings and examples, every constructor -/

theorem test_decode_mov :
    [0x00002000, 0x020FFFF7, 0x030FFFF7].map decode =
      [.instr (.mov 0 2),
       .instr (.movi 0 1048567),
       .instr (.moviz 0 1048567)] := by decide

theorem test_decode_add :
    [0x04012000, 0x05012000, 0x0601FFFF, 0x0701FFF9].map decode =
      [.instr (.add 0 1 2),
       .instr (.adds 0 1 2),
       .instr (.addi 0 1 65535),
       .instr (.addis 0 1 65529)] := by decide

theorem test_decode_sub :
    [0x08012000, 0x09012000, 0x0A018000, 0x0B010009].map decode =
      [.instr (.sub 0 1 2),
       .instr (.subs 0 1 2),
       .instr (.subi 0 1 32768),
       .instr (.subis 0 1 9)] := by decide

theorem test_decode_movh :
    [0x0C00003B, 0x0E00003B].map decode =
      [.instr (.movh 0 59),
       .instr (.movhl 0 59)] := by decide

theorem test_decode_cmp :
    [0x10012000, 0x11012000, 0x12010007, 0x1301FFFF].map decode =
      [.instr (.cmp 1 2),
       .instr (.cmps 1 2),
       .instr (.cmpi 1 7),
       .instr (.cmpis 1 65535)] := by decide

theorem test_decode_mul :
    [0x14012000, 0x15012000, 0x1601FFFF, 0x17010000].map decode =
      [.instr (.mul 0 1 2),
       .instr (.muls 0 1 2),
       .instr (.muli 0 1 65535),
       .instr (.mulis 0 1 0)] := by decide

theorem test_decode_mulh :
    [0x18012000, 0x19012000, 0x1A01FFFE, 0x1B01FFFF].map decode =
      [.instr (.mulh 0 1 2),
       .instr (.mulhs 0 1 2),
       .instr (.mulhi 0 1 65534),
       .instr (.mulhis 0 1 65535)] := by decide

theorem test_decode_mulhu :
    [0x1C012000, 0x1D012000, 0x1E01FFFE, 0x1F01FFFF].map decode =
      [.instr (.mulhu 0 1 2),
       .instr (.mulhus 0 1 2),
       .instr (.mulhui 0 1 65534),
       .instr (.mulhuis 0 1 65535)] := by decide

theorem test_decode_mulfx :
    [0x20012000, 0x21012000, 0x22010180, 0x23010080].map decode =
      [.instr (.mulfx 0 1 2),
       .instr (.mulfxs 0 1 2),
       .instr (.mulfxi 0 1 384),
       .instr (.mulfxis 0 1 128)] := by decide

theorem test_decode_div :
    [0x24012000, 0x25012000, 0x2601FFFE, 0x2701FFFF].map decode =
      [.instr (.div 0 1 2),
       .instr (.divs 0 1 2),
       .instr (.divi 0 1 65534),
       .instr (.divis 0 1 65535)] := by decide

theorem test_decode_divu :
    [0x28012000, 0x29012000, 0x2A01FFFE, 0x2B01FFFF].map decode =
      [.instr (.divu 0 1 2),
       .instr (.divus 0 1 2),
       .instr (.divui 0 1 65534),
       .instr (.divuis 0 1 65535)] := by decide

theorem test_decode_mod :
    [0x2C012000, 0x2D012000, 0x2E01FFFE, 0x2F01FFFD].map decode =
      [.instr (.mod 0 1 2),
       .instr (.mods 0 1 2),
       .instr (.modi 0 1 65534),
       .instr (.modis 0 1 65533)] := by decide

theorem test_decode_modu :
    [0x30012000, 0x31012000, 0x3201FFFE, 0x3301FFFF].map decode =
      [.instr (.modu 0 1 2),
       .instr (.modus 0 1 2),
       .instr (.modui 0 1 65534),
       .instr (.moduis 0 1 65535)] := by decide

theorem test_decode_shl :
    [0x60012000, 0x61012000, 0x62010001, 0x63010000].map decode =
      [.instr (.shl 0 1 2),
       .instr (.shls 0 1 2),
       .instr (.shli 0 1 1),
       .instr (.shlis 0 1 0)] := by decide

theorem test_decode_asr :
    [0x64012000, 0x65012000, 0x66010001, 0x67010000].map decode =
      [.instr (.asr 0 1 2),
       .instr (.asrs 0 1 2),
       .instr (.asri 0 1 1),
       .instr (.asris 0 1 0)] := by decide

theorem test_decode_lsr :
    [0x68012000, 0x69012000, 0x6A010001, 0x6B010000].map decode =
      [.instr (.lsr 0 1 2),
       .instr (.lsrs 0 1 2),
       .instr (.lsri 0 1 1),
       .instr (.lsris 0 1 0)] := by decide

theorem test_decode_rol :
    [0x6C012000, 0x6D012000, 0x6E010001, 0x6F010000].map decode =
      [.instr (.rol 0 1 2),
       .instr (.rols 0 1 2),
       .instr (.roli 0 1 1),
       .instr (.rolis 0 1 0)] := by decide

theorem test_decode_ror :
    [0x70012000, 0x71012000, 0x72010001, 0x73010000].map decode =
      [.instr (.ror 0 1 2),
       .instr (.rors 0 1 2),
       .instr (.rori 0 1 1),
       .instr (.roris 0 1 0)] := by decide

theorem test_decode_and :
    [0x84012000, 0x85012000, 0x8601FF00, 0x870100E3].map decode =
      [.instr (.and 0 1 2),
       .instr (.ands 0 1 2),
       .instr (.andi 0 1 65280),
       .instr (.andis 0 1 227)] := by decide

theorem test_decode_or :
    [0x88012000, 0x89012000, 0x8A015678, 0x8B010000].map decode =
      [.instr (.or 0 1 2),
       .instr (.ors 0 1 2),
       .instr (.ori 0 1 22136),
       .instr (.oris 0 1 0)] := by decide

theorem test_decode_xor :
    [0x8C012000, 0x8D012000, 0x8E01FFFF, 0x8F0100E3].map decode =
      [.instr (.xor 0 1 2),
       .instr (.xors 0 1 2),
       .instr (.xori 0 1 65535),
       .instr (.xoris 0 1 227)] := by decide

theorem test_decode_not :
    [0x90001000, 0x91002000, 0x92000000, 0x930FFFFF].map decode =
      [.instr (.not 0 1),
       .instr (.nots 0 2),
       .instr (.noti 0 0),
       .instr (.notis 0 1048575)] := by decide

theorem test_decode_bchk :
    [0x94012000, 0x95012000, 0x96010001, 0x97010001].map decode =
      [.instr (.bchk 1 2),
       .instr (.bchks 1 2),
       .instr (.bchki 1 1),
       .instr (.bchkis 1 1)] := by decide

theorem test_decode_ldr :
    [0xA0010000, 0xA2001000, 0xA1000F00].map decode =
      [.instr (.ldr 0 1 0),
       .instr (.ldri 0 4096),
       .instr (.ldrr 0 3840)] := by decide

theorem test_decode_ldrb :
    [0xA4010000, 0xA6001003, 0xA5000000].map decode =
      [.instr (.ldrb 0 1 0),
       .instr (.ldrbi 0 4099),
       .instr (.ldrbr 0 0)] := by decide

theorem test_decode_ldrsb :
    [0xA8010000, 0xAA001003, 0xA9000F01].map decode =
      [.instr (.ldrsb 0 1 0),
       .instr (.ldrsbi 0 4099),
       .instr (.ldrsbr 0 3841)] := by decide

theorem test_decode_ldrh :
    [0xAC010000, 0xAE001006, 0xAD000F02].map decode =
      [.instr (.ldrh 0 1 0),
       .instr (.ldrhi 0 4102),
       .instr (.ldrhr 0 3842)] := by decide

theorem test_decode_ldrsh :
    [0xB0010000, 0xB2001006, 0xB1000F02].map decode =
      [.instr (.ldrsh 0 1 0),
       .instr (.ldrshi 0 4102),
       .instr (.ldrshr 0 3842)] := by decide

theorem test_decode_str :
    [0xB4F12FFC, 0xB6122345, 0xB5013E00].map decode =
      [.instr (.str 2 1 65532),
       .instr (.stri 2 74565),
       .instr (.strr 3 7680)] := by decide

theorem test_decode_strb :
    [0xB8012136, 0xBA0020C8, 0xB9013E00].map decode =
      [.instr (.strb 2 1 310),
       .instr (.strbi 2 200),
       .instr (.strbr 3 7680)] := by decide

theorem test_decode_strh :
    [0xBC012136, 0xBE0020C8, 0xBD013E00].map decode =
      [.instr (.strh 2 1 310),
       .instr (.strhi 2 200),
       .instr (.strhr 3 7680)] := by decide

theorem test_decode_b :
    [0xCBFFFDC0, 0xCBFFFDC1, 0xC8000102, 0xC8000103, 0xC8000104, 0xC8000105, 0xC8000106, 0xC8000107, 0xC8000108, 0xC8000109, 0xC800010A, 0xC800010B, 0xC800010C, 0xC800010D, 0xCA00000E].map decode =
      [.instr (.beq 4194268),
       .instr (.bne 4194268),
       .instr (.bcs 16),
       .instr (.bcc 16),
       .instr (.bmi 16),
       .instr (.bpl 16),
       .instr (.bvs 16),
       .instr (.bvc 16),
       .instr (.bhi 16),
       .instr (.bls 16),
       .instr (.bge 16),
       .instr (.blt 16),
       .instr (.bgt 16),
       .instr (.ble 16),
       .instr (.bal 2097152)] := by decide

theorem test_decode_jmp :
    [0xCC0D5678, 0xCE000000, 0xCDFD3454, 0xCFF02000].map decode =
      [.instr (.jmp 13 22136),
       .instr (.jmpi 0),
       .instr (.jmpl 15 13 13396),
       .instr (.jmpil 15 8192)] := by decide

/-- Words that do not decode (96_test_vectors_derived.md 2.31). -/
theorem test_decode_illegal :
    [0x34000000, 0x5C000000, 0x74000000, 0x80000000, 0x98000000, 0xC0000000, 0xC4000000, 0xD0000000,
      0xFFFFFFFF].all (fun w => decode w == .illegalInstruction) = true := by decide

theorem test_decode_reserved :
    [0x04012001, 0x00010000, 0x01000000, 0x0D00003B, 0x11112000, 0x94112000, 0x90011000, 0xA3000000, 0xB7000000,
      0xC800000F, 0xCC160000].all (fun w => decode w == .reservedEncoding) = true := by decide

/-- The opcode table's numbering of a row's bits. -/
theorem test_decodeTableWord :
    decodeTableWord 32 0x07010006 = some (.addis 0 1 6) ∧ decodeTableWord 32 0xFFFFFFFF = none := by decide

/-! ## The assembler (R93, R94, R98) -/

theorem test_assemble_text :
    assembleText "ADDIS R0, R1, #6" = some 0x07010006 ∧ assembleText "STR R2, R1, #310" = some 0xB4012136 ∧
    assembleText "BEQ #-36" = some 0xCBFFFDC0 ∧ assembleText "BHS #16" = some 0xC8000102 ∧
    assembleText "MULFXIS R0, R1, #0xFF80" = some 0x2301FF80 := by decide

/-- One ill-formed line for each check, refused by that check. -/
theorem test_wf_system : AsmLine.check ⟨"SYSCALL", []⟩ = some .systemInstruction := by decide

theorem test_wf_bareBranch : AsmLine.check ⟨"B", [.imm 8]⟩ = some .bareBranch := by decide

theorem test_wf_unknown : AsmLine.check ⟨"MOVHK", [.reg 0, .imm 1]⟩ = some .unknownMnemonic := by decide

theorem test_wf_count :
    AsmLine.check ⟨"ADD", [.reg 0, .reg 1]⟩ = some .operandCount ∧
    AsmLine.check ⟨"NOT", [.reg 0, .reg 1, .reg 2]⟩ = some .operandCount := by decide

theorem test_wf_registerExpected : AsmLine.check ⟨"ADD", [.reg 0, .reg 1, .imm 2]⟩ = some .registerExpected := by
  decide

theorem test_wf_immediateExpected :
    AsmLine.check ⟨"ADDI", [.reg 0, .reg 1, .reg 2]⟩ = some .immediateExpected ∧
    AsmLine.check ⟨"NOTI", [.reg 0, .reg 1]⟩ = some .immediateExpected ∧
    AsmLine.check ⟨"BEQ", [.reg 0]⟩ = some .immediateExpected := by decide

theorem test_wf_noSuchRegister : AsmLine.check ⟨"MOV", [.reg 16, .reg 0]⟩ = some .noSuchRegister := by decide

theorem test_wf_range :
    AsmLine.check ⟨"ADDI", [.reg 0, .reg 1, .imm 65536]⟩ = some .immediateOutOfRange ∧
    AsmLine.check ⟨"ADDI", [.reg 0, .reg 1, .imm (-32769)]⟩ = some .immediateOutOfRange ∧
    AsmLine.check ⟨"ANDI", [.reg 0, .reg 1, .imm (-1)]⟩ = some .immediateOutOfRange ∧
    AsmLine.check ⟨"BEQ", [.imm 4194304]⟩ = some .immediateOutOfRange ∧
    AsmLine.check ⟨"MULHIS", [.reg 0, .reg 1, .imm 0xFFFF]⟩ = none := by decide

theorem test_wf_misalignedOffset : AsmLine.check ⟨"BAL", [.imm 6]⟩ = some .misalignedOffset := by decide

/-! ## One step of each instruction (96_test_vectors_derived.md sections 2.1 to 2.30) -/

/-- A start state: flags, pc, registers and bytes as a vector gives them, everything else as after reset. -/
def start (f : Flags) (pc : Word) (regs : List (Reg × Word)) (bytes : List Host.Cell) : State :=
  { State.reset.setRegs regs with flags := f, pc := pc, mem := Memory.writeAll [] bytes }

/-- The step of the word at pc leaves this register value, these flags and this pc. -/
def leaves (s : State) (w : Nat) (r : Reg) (v : Word) (f : Flags) (pc : Word) : Bool :=
  match step (s.withFetchWord 32 w) with
  | .next t => t.reg r == v && t.flags == f && t.pc == pc
  | .fault _ => false
  | .refused _ => false

/-- The step of the word at pc leaves these bytes from an address on, and this pc. -/
def stores (s : State) (w : Nat) (a : Word) (bs : List Byte) (pc : Word) : Bool :=
  match step (s.withFetchWord 32 w) with
  | .next t => (byteAddrs a bs.length).map t.byteAt == bs && t.pc == pc
  | .fault _ => false
  | .refused _ => false

def start1 : State :=
  start ⟨true, false, true, false⟩ 0x100 [(1, 0xDEADBEEF), (2, 0x00001234)]
    []

theorem test_step_mov :
    [leaves start1 0x00102000 1 0x00001234 ⟨true, false, true, false⟩ 0x104,
     leaves start1 0x02100000 1 0x00000000 ⟨true, false, true, false⟩ 0x104,
     leaves start1 0x0317FFFF 1 0x0007FFFF ⟨true, false, true, false⟩ 0x104].all id = true := by decide

def start2 : State :=
  start ⟨true, true, true, true⟩ 0x100 [(1, 0x00000007), (2, 0x00000005), (3, 0x80000000)]
    []

theorem test_step_add :
    [leaves start2 0x04012000 0 0x0000000C ⟨true, true, true, true⟩ 0x104,
     leaves start2 0x05012000 0 0x0000000C ⟨false, false, false, false⟩ 0x104,
     leaves start2 0x0601FFFF 0 0x00000006 ⟨true, true, true, true⟩ 0x104,
     leaves start2 0x0701FFF9 0 0x00000000 ⟨false, true, true, false⟩ 0x104].all id = true := by decide

theorem test_step_sub :
    [leaves start2 0x08021000 0 0xFFFFFFFE ⟨true, true, true, true⟩ 0x104,
     leaves start2 0x09021000 0 0xFFFFFFFE ⟨true, false, false, false⟩ 0x104,
     leaves start2 0x0A018000 0 0x00008007 ⟨true, true, true, true⟩ 0x104,
     leaves start2 0x0B030001 0 0x7FFFFFFF ⟨false, false, true, true⟩ 0x104].all id = true := by decide

theorem test_step_movh :
    [leaves start1 0x0C100000 1 0x00000000 ⟨true, false, true, false⟩ 0x104,
     leaves start1 0x0E10FFFF 1 0x0FFFF000 ⟨true, false, true, false⟩ 0x104].all id = true := by decide

theorem test_step_cmp :
    [leaves start2 0x10012000 0 0x0 ⟨true, true, true, true⟩ 0x104,
     leaves start2 0x11021000 0 0x0 ⟨true, false, false, false⟩ 0x104,
     leaves start2 0x12010007 0 0x0 ⟨true, true, true, true⟩ 0x104,
     leaves start2 0x1301FFFF 0 0x0 ⟨false, false, false, false⟩ 0x104].all id = true := by decide

def start3 : State :=
  start ⟨true, true, true, true⟩ 0x100 [(1, 0x00000007), (2, 0x70000000), (3, 0x00018000)]
    []

theorem test_step_mul :
    [leaves start3 0x14012000 0 0x10000000 ⟨true, true, true, true⟩ 0x104,
     leaves start3 0x15012000 0 0x10000000 ⟨false, false, true, true⟩ 0x104,
     leaves start3 0x1601FFFF 0 0xFFFFFFF9 ⟨true, true, true, true⟩ 0x104,
     leaves start3 0x1701FFFF 0 0xFFFFFFF9 ⟨true, false, false, true⟩ 0x104].all id = true := by decide

theorem test_step_mulh :
    [leaves start3 0x18012000 0 0x00000003 ⟨true, true, true, true⟩ 0x104,
     leaves start3 0x19022000 0 0x31000000 ⟨false, false, false, false⟩ 0x104,
     leaves start3 0x1A01FFFF 0 0xFFFFFFFF ⟨true, true, true, true⟩ 0x104,
     leaves start3 0x1B01FFFF 0 0xFFFFFFFF ⟨true, false, false, false⟩ 0x104].all id = true := by decide

theorem test_step_mulhu :
    [leaves start3 0x1C022000 0 0x31000000 ⟨true, true, true, true⟩ 0x104,
     leaves start3 0x1D011000 0 0x00000000 ⟨false, true, false, false⟩ 0x104,
     leaves start3 0x1E02FFFF 0 0x00006FFF ⟨true, true, true, true⟩ 0x104,
     leaves start3 0x1F028000 0 0x00003800 ⟨false, false, false, false⟩ 0x104].all id = true := by decide

theorem test_step_mulfx :
    [leaves start3 0x20033000 0 0x00024000 ⟨true, true, true, true⟩ 0x104,
     leaves start3 0x21033000 0 0x00024000 ⟨false, false, false, false⟩ 0x104,
     leaves start3 0x22030200 0 0x00030000 ⟨true, true, true, true⟩ 0x104,
     leaves start3 0x2303FF80 0 0xFFFF4000 ⟨true, false, false, false⟩ 0x104].all id = true := by decide

def start4 : State :=
  start ⟨true, true, true, true⟩ 0x100 [(1, 0xFFFFFFF9), (2, 0x00000002), (3, 0x00000000), (4, 0x80000000)]
    []

theorem test_step_div :
    [leaves start4 0x24012000 0 0xFFFFFFFD ⟨true, true, true, true⟩ 0x104,
     leaves start4 0x25012000 0 0xFFFFFFFD ⟨true, false, false, false⟩ 0x104,
     leaves start4 0x2601FFFE 0 0x00000003 ⟨true, true, true, true⟩ 0x104,
     leaves start4 0x2704FFFF 0 0x80000000 ⟨true, false, false, true⟩ 0x104].all id = true := by decide

theorem test_step_divu :
    [leaves start4 0x28012000 0 0x7FFFFFFC ⟨true, true, true, true⟩ 0x104,
     leaves start4 0x29012000 0 0x7FFFFFFC ⟨false, false, false, false⟩ 0x104,
     leaves start4 0x2A01FFFE 0 0x00010001 ⟨true, true, true, true⟩ 0x104,
     leaves start4 0x2B04FFFF 0 0x00008000 ⟨false, false, false, false⟩ 0x104].all id = true := by decide

theorem test_step_mod :
    [leaves start4 0x2C012000 0 0xFFFFFFFF ⟨true, true, true, true⟩ 0x104,
     leaves start4 0x2D012000 0 0xFFFFFFFF ⟨true, false, false, false⟩ 0x104,
     leaves start4 0x2E01FFFE 0 0xFFFFFFFF ⟨true, true, true, true⟩ 0x104,
     leaves start4 0x2F04FFFF 0 0x00000000 ⟨false, true, false, false⟩ 0x104].all id = true := by decide

theorem test_step_modu :
    [leaves start4 0x30012000 0 0x00000001 ⟨true, true, true, true⟩ 0x104,
     leaves start4 0x31012000 0 0x00000001 ⟨false, false, false, false⟩ 0x104,
     leaves start4 0x3201FFFE 0 0x0000FFFB ⟨true, true, true, true⟩ 0x104,
     leaves start4 0x3304FFFF 0 0x00008000 ⟨false, false, false, false⟩ 0x104].all id = true := by decide

def start5 : State :=
  start ⟨true, true, true, true⟩ 0x100 [(1, 0x80000001), (2, 0x00000004), (3, 0x00000020)]
    []

theorem test_step_shl :
    [leaves start5 0x60012000 0 0x00000010 ⟨true, true, true, true⟩ 0x104,
     leaves start5 0x61012000 0 0x00000010 ⟨false, false, false, false⟩ 0x104,
     leaves start5 0x62010001 0 0x00000002 ⟨true, true, true, true⟩ 0x104,
     leaves start5 0x6301001F 0 0x80000000 ⟨true, false, false, false⟩ 0x104].all id = true := by decide

theorem test_step_asr :
    [leaves start5 0x64012000 0 0xF8000000 ⟨true, true, true, true⟩ 0x104,
     leaves start5 0x65012000 0 0xF8000000 ⟨true, false, false, false⟩ 0x104,
     leaves start5 0x66010001 0 0xC0000000 ⟨true, true, true, true⟩ 0x104,
     leaves start5 0x6701001F 0 0xFFFFFFFF ⟨true, false, false, false⟩ 0x104].all id = true := by decide

theorem test_step_lsr :
    [leaves start5 0x68012000 0 0x08000000 ⟨true, true, true, true⟩ 0x104,
     leaves start5 0x69012000 0 0x08000000 ⟨false, false, false, false⟩ 0x104,
     leaves start5 0x6A010001 0 0x40000000 ⟨true, true, true, true⟩ 0x104,
     leaves start5 0x6B01001F 0 0x00000001 ⟨false, false, false, false⟩ 0x104].all id = true := by decide

theorem test_step_rol :
    [leaves start5 0x6C012000 0 0x00000018 ⟨true, true, true, true⟩ 0x104,
     leaves start5 0x6D012000 0 0x00000018 ⟨false, false, false, false⟩ 0x104,
     leaves start5 0x6E010001 0 0x00000003 ⟨true, true, true, true⟩ 0x104,
     leaves start5 0x6F01001F 0 0xC0000000 ⟨true, false, false, false⟩ 0x104].all id = true := by decide

theorem test_step_ror :
    [leaves start5 0x70012000 0 0x18000000 ⟨true, true, true, true⟩ 0x104,
     leaves start5 0x71012000 0 0x18000000 ⟨false, false, false, false⟩ 0x104,
     leaves start5 0x72010001 0 0xC0000000 ⟨true, true, true, true⟩ 0x104,
     leaves start5 0x7301001F 0 0x00000003 ⟨false, false, false, false⟩ 0x104].all id = true := by decide

def start6 : State :=
  start ⟨true, true, true, true⟩ 0x100 [(1, 0x0000006D), (2, 0x00000037), (3, 0xFFFF0000)]
    []

theorem test_step_and :
    [leaves start6 0x84012000 0 0x00000025 ⟨true, true, true, true⟩ 0x104,
     leaves start6 0x85013000 0 0x00000000 ⟨false, true, false, false⟩ 0x104,
     leaves start6 0x8603FFFF 0 0x00000000 ⟨true, true, true, true⟩ 0x104,
     leaves start6 0x8703FFFF 0 0x00000000 ⟨false, true, false, false⟩ 0x104].all id = true := by decide

theorem test_step_or :
    [leaves start6 0x88012000 0 0x0000007F ⟨true, true, true, true⟩ 0x104,
     leaves start6 0x89013000 0 0xFFFF006D ⟨true, false, false, false⟩ 0x104,
     leaves start6 0x8A038000 0 0xFFFF8000 ⟨true, true, true, true⟩ 0x104,
     leaves start6 0x8B010000 0 0x0000006D ⟨false, false, false, false⟩ 0x104].all id = true := by decide

theorem test_step_xor :
    [leaves start6 0x8C012000 0 0x0000005A ⟨true, true, true, true⟩ 0x104,
     leaves start6 0x8D011000 0 0x00000000 ⟨false, true, false, false⟩ 0x104,
     leaves start6 0x8E03FFFF 0 0xFFFFFFFF ⟨true, true, true, true⟩ 0x104,
     leaves start6 0x8F030001 0 0xFFFF0001 ⟨true, false, false, false⟩ 0x104].all id = true := by decide

theorem test_step_not :
    [leaves start6 0x90001000 0 0xFFFFFF92 ⟨true, true, true, true⟩ 0x104,
     leaves start6 0x91003000 0 0x0000FFFF ⟨false, false, false, false⟩ 0x104,
     leaves start6 0x92000000 0 0xFFFFFFFF ⟨true, true, true, true⟩ 0x104,
     leaves start6 0x930FFFFF 0 0xFFF00000 ⟨true, false, false, false⟩ 0x104].all id = true := by decide

theorem test_step_bchk :
    [leaves start6 0x94012000 0 0x0 ⟨true, true, true, true⟩ 0x104,
     leaves start6 0x95013000 0 0x0 ⟨false, true, false, false⟩ 0x104,
     leaves start6 0x96010001 0 0x0 ⟨true, true, true, true⟩ 0x104,
     leaves start6 0x97010001 0 0x0 ⟨false, false, false, false⟩ 0x104].all id = true := by decide

def start7 : State :=
  start ⟨true, false, true, false⟩ 0x100 [(1, 0x00001000), (2, 0x00001004)]
    [(0x1000, 0x80), (0x1001, 0x91), (0x1002, 0x02), (0x1003, 0xF3), (0x1004, 0x7F), (0x1005, 0x00), (0x1006, 0xFF), (0x1007, 0x04)]

theorem test_step_ldr :
    [leaves start7 0xA0010000 0 0xF3029180 ⟨true, false, true, false⟩ 0x104,
     leaves start7 0xA2001000 0 0xF3029180 ⟨true, false, true, false⟩ 0x104,
     leaves start7 0xA1000F00 0 0xF3029180 ⟨true, false, true, false⟩ 0x104].all id = true := by decide

theorem test_step_ldrb :
    [leaves start7 0xA4010000 0 0x00000080 ⟨true, false, true, false⟩ 0x104,
     leaves start7 0xA6001003 0 0x000000F3 ⟨true, false, true, false⟩ 0x104,
     leaves start7 0xA5000F01 0 0x00000091 ⟨true, false, true, false⟩ 0x104].all id = true := by decide

theorem test_step_ldrsb :
    [leaves start7 0xA8010000 0 0xFFFFFF80 ⟨true, false, true, false⟩ 0x104,
     leaves start7 0xAA001003 0 0xFFFFFFF3 ⟨true, false, true, false⟩ 0x104,
     leaves start7 0xA9000F01 0 0xFFFFFF91 ⟨true, false, true, false⟩ 0x104].all id = true := by decide

theorem test_step_ldrh :
    [leaves start7 0xAC010000 0 0x00009180 ⟨true, false, true, false⟩ 0x104,
     leaves start7 0xAE001006 0 0x000004FF ⟨true, false, true, false⟩ 0x104,
     leaves start7 0xAD000F02 0 0x0000F302 ⟨true, false, true, false⟩ 0x104].all id = true := by decide

theorem test_step_ldrsh :
    [leaves start7 0xB0010000 0 0xFFFF9180 ⟨true, false, true, false⟩ 0x104,
     leaves start7 0xB2001006 0 0x000004FF ⟨true, false, true, false⟩ 0x104,
     leaves start7 0xB1000F02 0 0xFFFFF302 ⟨true, false, true, false⟩ 0x104].all id = true := by decide

def start8 : State :=
  start ⟨true, false, true, false⟩ 0x100 [(1, 0x00002000), (3, 0x12345678)]
    [(0x2001, 0xEE), (0x2002, 0xEE), (0x2004, 0xEE), (0x2009, 0xEE), (0x200A, 0xEE), (0x200C, 0xEE), (0x1F01, 0xEE), (0x1F02, 0xEE), (0x1F04, 0xEE)]

theorem test_step_str :
    [stores start8 0xB4013000 0x2000 [0x78, 0x56, 0x34, 0x12, 0xEE] 0x104,
     stores start8 0xB6023008 0x2008 [0x78, 0x56, 0x34, 0x12, 0xEE] 0x104,
     stores start8 0xB5013E00 0x1F00 [0x78, 0x56, 0x34, 0x12, 0xEE] 0x104].all id = true := by decide

theorem test_step_strb :
    [stores start8 0xB8013000 0x2000 [0x78, 0xEE] 0x104,
     stores start8 0xBA023008 0x2008 [0x78, 0xEE] 0x104,
     stores start8 0xB9013E00 0x1F00 [0x78, 0xEE] 0x104].all id = true := by decide

theorem test_step_strh :
    [stores start8 0xBC013000 0x2000 [0x78, 0x56, 0xEE] 0x104,
     stores start8 0xBE023008 0x2008 [0x78, 0x56, 0xEE] 0x104,
     stores start8 0xBD013E00 0x1F00 [0x78, 0x56, 0xEE] 0x104].all id = true := by decide

def start9 : State :=
  start ⟨false, true, false, false⟩ 0x1000 []
    []

def start10 : State :=
  start ⟨false, false, false, false⟩ 0x1000 []
    []

def start11 : State :=
  start ⟨false, false, true, false⟩ 0x1000 []
    []

def start12 : State :=
  start ⟨true, false, false, false⟩ 0x1000 []
    []

def start13 : State :=
  start ⟨false, false, false, true⟩ 0x1000 []
    []

def start14 : State :=
  start ⟨true, false, false, true⟩ 0x1000 []
    []

theorem test_step_b :
    [leaves start9 0xC8000080 0 0x0 ⟨false, true, false, false⟩ 0x1008,
     leaves start10 0xCBFFFF81 0 0x0 ⟨false, false, false, false⟩ 0xFF8,
     leaves start11 0xC8000102 0 0x0 ⟨false, false, true, false⟩ 0x1010,
     leaves start11 0xC8000103 0 0x0 ⟨false, false, true, false⟩ 0x1004,
     leaves start12 0xC8000104 0 0x0 ⟨true, false, false, false⟩ 0x1010,
     leaves start12 0xC8000105 0 0x0 ⟨true, false, false, false⟩ 0x1004,
     leaves start13 0xC8000106 0 0x0 ⟨false, false, false, true⟩ 0x1010,
     leaves start13 0xC8000107 0 0x0 ⟨false, false, false, true⟩ 0x1004,
     leaves start11 0xC8000108 0 0x0 ⟨false, false, true, false⟩ 0x1010,
     leaves start10 0xC8000109 0 0x0 ⟨false, false, false, false⟩ 0x1010,
     leaves start14 0xC800010A 0 0x0 ⟨true, false, false, true⟩ 0x1010,
     leaves start14 0xC800010B 0 0x0 ⟨true, false, false, true⟩ 0x1004,
     leaves start9 0xC800010C 0 0x0 ⟨false, true, false, false⟩ 0x1004,
     leaves start9 0xC800010D 0 0x0 ⟨false, true, false, false⟩ 0x1010,
     leaves start10 0xC800000E 0 0x0 ⟨false, false, false, false⟩ 0x1000].all id = true := by decide

def start15 : State :=
  start ⟨true, false, true, false⟩ 0x1000 [(6, 0x00002000), (13, 0x12340000), (15, 0x00000104)]
    []

theorem test_step_jmp :
    [leaves start15 0xCC0F0000 0 0x0 ⟨true, false, true, false⟩ 0x104,
     leaves start15 0xCE000048 0 0x0 ⟨true, false, true, false⟩ 0x48,
     leaves start15 0xCDF60000 15 0x00001004 ⟨true, false, true, false⟩ 0x2000,
     leaves start15 0xCFF02000 15 0x00001004 ⟨true, false, true, false⟩ 0x2000].all id = true := by decide

/-! ## The other values of the parameters, and the corners (vectors of R116, R151, R167, R173, R183, R202) -/

theorem test_param_mul :
    (mulOp .unsigned 0xFFFFFFFF 0xFFFFFFFF).flags = ⟨false, false, false, true⟩ ∧
    (mulOp .signed 0xFFFFFFFF 0xFFFFFFFF).flags = ⟨false, false, false, false⟩ := by decide

theorem test_param_division :
    (divOp .truncate 0xFFFFFFF9 2).value = 0xFFFFFFFD ∧ (divOp .floor 0xFFFFFFF9 2).value = 0xFFFFFFFC ∧
    (modOp .truncate 7 0xFFFFFFFE).value = 1 ∧ (modOp .floor 7 0xFFFFFFFE).value = 0xFFFFFFFF ∧
    (divOp .truncate 0x80000000 0xFFFFFFFF).flags = ⟨true, false, false, true⟩ := by decide

theorem test_param_shift :
    (shlOp Config.default 0x80000001 32 false).flags = ⟨false, true, true, false⟩ ∧
    (shlOp { Config.default with shiftOver31 := .low5 } 0x80000001 33 false).value = 2 ∧
    (rolOp Config.default 0x80000001 32 false).carry = true ∧
    (asrOp { Config.default with shiftZeroCarry := .unchanged } 7 0 true).carry = true := by decide

theorem test_mulfx_rounds_down : (mulfxOp 0xFFFFFFFF 1).value = 0xFFFFFFFF := by decide

/-- Big-endian bytes of a store and of a load (R43, R44, vectors of 2.26 and 2.27). -/
def bigStart : State :=
  { start ⟨true, false, true, false⟩ 0x100 [(1, 0x2000), (3, 0x12345678)] [] with
    cfg := { Config.default with byteOrder := .big } }

theorem test_big_endian : stores bigStart 0xB4013000 0x2000 [0x12, 0x34, 0x56, 0x78] 0x104 = true := by decide

/-- A word that wraps past the top of memory (R49). -/
theorem test_wrap :
    (start ⟨false, false, false, false⟩ 0x100 [] [(0, 0x33), (1, 0x44), (0xFFFFFFFE, 0x11), (0xFFFFFFFF, 0x22)]).readValue
      0xFFFFFFFE 4 = 0x44332211 := by decide

/-- The launch of R407: its first step leaves x[1] = 5 and pc = 0x104. -/
def launch407 : Launch where
  text := [⟨0x100, [0x02100005, 0x0721FFFB, 0xCC0F0000]⟩]
  data := []
  resetPc := 0x100
  endPc := 0x2000
  regs := [(15, 0x2000)]
  flags := ⟨none, none, none, none⟩

/-- The value a step leaves in a register, if it answers a next state. -/
def regAfter (r : Reg) : Result → Option Word
  | .next t => some (t.reg r)
  | .fault _ => none
  | .refused _ => none

theorem test_launch_step : regAfter 1 (step (State.reset.launch launch407)) = some 5 := by decide

/-- The launch of 95_test_vectors.md 3.4, with two text regions; its second region is cut to three words. -/
def launch34 : Launch where
  text := [⟨0x100, [0x0CD00123, 0xCC0D0040]⟩, ⟨0x01230040, [0x03118000, 0x22210280, 0x21322000]⟩]
  data := []
  resetPc := 0x100
  endPc := 0x02000000
  regs := []
  flags := ⟨none, none, none, none⟩

theorem test_launch_two_regions :
    (State.reset.launch launch34).readValue 0x104 4 = 0xCC0D0040 ∧
    (State.reset.launch launch34).readValue 0x01230048 4 = 0x21322000 ∧
    (State.reset.launch launch34).inText 0x01230040 = true ∧
    (State.reset.launch launch34).inText 0x108 = false := by decide

/-- The fault a step answers, if it does. -/
def faultOf : Result → Option Fault
  | .next _ => none
  | .fault f => some f
  | .refused _ => none

/-- A RESET_PC outside the text, or misaligned, makes the first step a fault (R401). -/
theorem test_launch_outside_text :
    faultOf (step (State.reset.launch { launch407 with resetPc := 0x10C })) = some (.unmappedAccess 0x10C 0x10C) ∧
    faultOf (step (State.reset.launch { launch407 with resetPc := 0x102 })) = some (.misalignedFetch 0x102) ∧
    faultOf (step (State.reset.launch launch407)) = none := by decide

/-- A launch may fix one flag alone (R406). -/
theorem test_launch_flags :
    (State.reset.launch { launch407 with flags := ⟨none, none, some true, none⟩ }).flags =
      ⟨false, false, true, false⟩ := by decide

/-- A store into the launched text is a fault (R58), and the address is recorded (R372). -/
theorem test_text_write :
    (State.reset.launch launch407).writeFault 0x0FE .word = some (.textWrite 0x100 0x0FE) ∧
    (State.reset.launch launch407).writeFault 0x10C .word = none := by decide

/-! ## For each statement with hypotheses, a state and operands that meet them

`at0` is the state after reset with one word at pc. -/

/-- Reset with a word where the next fetch reads it. -/
def at0 (w : Nat) : State := State.reset.withFetchWord 32 w

/-- Reset under the stricter data alignment, with memory of 16 bytes and a word at pc. -/
def strictAt (w : Nat) : State :=
  { at0 w with cfg := { Config.default with misalignedData := .refuse, memMap := [⟨0, 16⟩] } }

/-- Reset with four bytes of immutable text at 8 and a word at pc. -/
def textAt (w : Nat) : State := { at0 w with cfg := { Config.default with text := [⟨8, 4⟩] } }

/-- Reset with coherent fetches and a word at pc. -/
def coherentAt (w : Nat) : State :=
  { at0 w with cfg := { Config.default with fetchCoherence := .coherent } }

theorem accessible_of {s : State} {w : Width} {a : Word} (h : s.readFault a w = none) : accessible s w a :=
  (State.readFault_eq_none_iff s a w).mp h

theorem writable_of {s : State} {w : Width} {a : Word} (h : s.writeFault a w = none) : writable s w a :=
  (State.writeFault_eq_none_iff s a w).mp h

/-- LoadWordForms, LoadByteForms, LoadHalfForms: each mode at a boundary of its immediate. -/
theorem witness_loads :
    accessible State.reset .word (State.reset.reg 1 + (0x8000#16).signExtend 32) ∧
    accessible State.reset .word ((0xFFFFF#20).setWidth 32) ∧
    accessible State.reset .word (State.reset.pc + (0x80000#20).signExtend 32) ∧
    accessible State.reset .byte (State.reset.reg 1 + (0x7FFF#16).signExtend 32) ∧
    accessible State.reset .byte ((0xFFFFF#20).setWidth 32) ∧
    accessible State.reset .byte (State.reset.pc + (0x7FFFF#20).signExtend 32) ∧
    accessible State.reset .half (State.reset.reg 1 + (0xFFFF#16).signExtend 32) ∧
    accessible State.reset .half ((0#20).setWidth 32) ∧
    accessible State.reset .half (State.reset.pc + (0xFFFFF#20).signExtend 32) :=
  ⟨accessible_of rfl, accessible_of rfl, accessible_of rfl, accessible_of rfl, accessible_of rfl, accessible_of rfl,
    accessible_of rfl, accessible_of rfl, accessible_of rfl⟩

/-- The same under the stricter alignment and a small memory: the last aligned word. -/
theorem witness_loads_strict : accessible (strictAt 0) .word 12 ∧ ¬ accessible (strictAt 0) .word 10 ∧
    ¬ accessible (strictAt 0) .word 16 := by
  refine ⟨accessible_of rfl, fun h => ?_, fun h => ?_⟩
  · exact absurd ((State.readFault_eq_none_iff _ _ _).mpr h) (by decide)
  · exact absurd ((State.readFault_eq_none_iff _ _ _).mpr h) (by decide)

/-- StoreWordForms, StoreByteForms, StoreHalfForms: each mode, and next to immutable text. -/
theorem witness_stores :
    writable (textAt 0) .word ((textAt 0).reg 1 + (0xFFFE#16).signExtend 32) ∧
    writable (textAt 0) .word ((0xC#20).setWidth 32) ∧
    writable (textAt 0) .word ((textAt 0).pc + (4#20).signExtend 32) ∧
    writable (textAt 0) .byte ((textAt 0).reg 1 + (7#16).signExtend 32) ∧
    writable (textAt 0) .byte ((0xC#20).setWidth 32) ∧
    writable (textAt 0) .byte ((textAt 0).pc + (0x80000#20).signExtend 32) ∧
    writable (textAt 0) .half ((textAt 0).reg 1 + (6#16).signExtend 32) ∧
    writable (textAt 0) .half ((0xFFFFF#20).setWidth 32) ∧
    writable (textAt 0) .half ((textAt 0).pc + (0xC#20).signExtend 32) :=
  ⟨writable_of rfl, writable_of rfl, writable_of rfl, writable_of rfl, writable_of rfl, writable_of rfl,
    writable_of rfl, writable_of rfl, writable_of rfl⟩

/-- StepRunsDecodedInstruction: ADD R0, R1, R2 at pc 0. -/
theorem witness_step :
    (at0 0x04012000).cfg.endPc ≠ some (at0 0x04012000).pc ∧ (at0 0x04012000).pc.toNat % 4 = 0 ∧
    (∀ k, k < 4 → (at0 0x04012000).mapped ((at0 0x04012000).pc + BitVec.ofNat 32 k) = true) ∧
    ((at0 0x04012000).cfg.resetPc = some (at0 0x04012000).pc → (at0 0x04012000).inText (at0 0x04012000).pc = true) ∧
    decode (BitVec.ofNat 32 (wordAt (at0 0x04012000) (at0 0x04012000).pc)) = .instr (.add 0 1 2) := by decide

/-- Reset with pc moved. -/
def pcAt (pc : Word) (cfg : Config) : State := { State.reset with pc := pc, cfg := cfg }

/-- FaultOrderOfAStep, the fetch clauses: pc 2, pc 12 with 14 bytes mapped, and pc 12 as a RESET_PC before the text. -/
theorem witness_fault_fetch :
    ((pcAt 2 Config.default).cfg.endPc ≠ some 2 ∧ (pcAt 2 Config.default).pc.toNat % 4 ≠ 0) ∧
    ((pcAt 12 { Config.default with memMap := [⟨0, 14⟩] }).pc.toNat % 4 = 0 ∧
      (pcAt 12 { Config.default with memMap := [⟨0, 14⟩] }).mapped 14 = false) ∧
    ((pcAt 12 { Config.default with resetPc := some 12, text := [⟨16, 4⟩] }).cfg.resetPc = some 12 ∧
      (pcAt 12 { Config.default with resetPc := some 12, text := [⟨16, 4⟩] }).inText 12 = false) := by decide

/-- FaultOrderOfAStep, the decode clauses: the last unassigned opcode, and ADD with a reserved bit set. -/
theorem witness_fault_decode :
    decode (BitVec.ofNat 32 (wordAt (at0 0xFFFFFFFF) 0)) = .illegalInstruction ∧
    decode (BitVec.ofNat 32 (wordAt (at0 0x04012001) 0)) = .reservedEncoding := by decide

/-- FaultOrderOfAStep, the data clauses: LDRI R0, #10 misaligned, STRI R0, #16 unmapped, STRHI R0, #7 half in the
text. -/
theorem witness_fault_data :
    (decode (BitVec.ofNat 32 (wordAt (strictAt 0xA200000A) 0)) = .instr (.ldri 0 10) ∧
      loadAccess (strictAt 0xA200000A) (.ldri 0 10) = some (.word, 10) ∧
      (strictAt 0xA200000A).cfg.misalignedData = .refuse) ∧
    (decode (BitVec.ofNat 32 (wordAt (strictAt 0xB6000010) 0)) = .instr (.stri 0 16) ∧
      storeAccess (strictAt 0xB6000010) (.stri 0 16) = some (.word, 16) ∧
      (strictAt 0xB6000010).mapped 16 = false) ∧
    (decode (BitVec.ofNat 32 (wordAt (textAt 0xBE000007) 0)) = .instr (.strhi 0 7) ∧
      storeAccess (textAt 0xBE000007) (.strhi 0 7) = some (.half, 7) ∧
      (textAt 0xBE000007).cfg.fetchCoherence = .immutable ∧ (textAt 0xBE000007).inText 8 = true) := by decide

theorem witness_fault_data_text : accessible (textAt 0xBE000007) .half 7 := accessible_of rfl

/-- The run of zero words ends at 4 after one step. -/
def endAt4 : State := { State.reset with cfg := { Config.default with endPc := some 4 } }

/-- The state one step of MOV R0, R0 leads to. -/
def endAt4' : State := { endAt4 with pc := 4 }

/-- RunOutcomes, RunKeepsConfiguration, ProgramTextIsImmutable: a run that ends after one step. -/
theorem witness_run_ends : endsAfter 1 endAt4 endAt4' := ⟨rfl, rfl⟩

/-- RunOutcomes: a run that faults at its first step. -/
theorem witness_run_faults : faultsAfter 0 (at0 0xFFFFFFFF) (.illegalInstruction 0) := ⟨at0 0xFFFFFFFF, rfl, rfl⟩

/-- RunOutcomes: a run that steps forever, BAL #0. -/
theorem witness_run_forever (k : Nat) : runsTo k (at0 0xC800000E) (at0 0xC800000E) := by
  induction k with
  | zero => rfl
  | succ k ih =>
    have h : step (at0 0xC800000E) = .next (at0 0xC800000E) := rfl
    show (match step (at0 0xC800000E) with
      | .next s' => Sys2Proof.core.run k s'
      | .fault r => .fault r
      | .refused r => .refused r) = .next (at0 0xC800000E)
    rw [h]
    exact ih

/-- Whether an outcome is a next state. -/
def isNext : Result → Bool
  | .next _ => true
  | .fault _ => false
  | .refused _ => false

/-- StepKeepsMemoryCanonical: a memory with entries, and the step of STRI R3, #0x2008. -/
theorem witness_canonical :
    (at0 0xB6023008).mem.wf = true ∧ (at0 0xB6023008).mem.length = 4 ∧
    isNext (step (at0 0xB6023008)) = true := by decide

/-- ProgramTextIsImmutable, the clauses on a store and on a coherent fetch. -/
theorem witness_text :
    ((textAt 0).cfg.fetchCoherence = .immutable ∧ storeAccess (textAt 0) (.stri 0 8) = some (.word, 8) ∧
      (textAt 0).inText (8 + BitVec.ofNat 32 3) = true) ∧
    ((coherentAt 0xB6000000).cfg.fetchCoherence = .coherent ∧ isNext (step (coherentAt 0xB6000000)) = true) ∧
    (at0 0x04012000).readValue 0 4 = 0x04012000 := by decide

theorem witness_text_accessible : accessible (textAt 0) .word 8 := accessible_of rfl

theorem witness_text_fetch : (at0 0x04012000).fetch = .ok 0x04012000 := rfl

/-- EncodeOfDecode: the branch BEQ #-36. -/
theorem witness_encode_decode : decode 0xCBFFFDC0 = .instr (.beq (BitVec.ofInt 22 (-36))) := by decide

/-- ReservedWordsFault: one word for each clause, fetched by a state that is not final. -/
theorem witness_reserved :
    (at0 0x01000000).fetch = .ok 0x01000000 ∧ (at0 0x0F000000).fetch = .ok 0x0F000000 ∧
    (at0 0xA3000000).fetch = .ok 0xA3000000 ∧ (at0 0xBF000000).fetch = .ok 0xBF000000 ∧
    (at0 0xC800000F).fetch = .ok 0xC800000F ∧ (at0 0x80000000).fetch = .ok 0x80000000 ∧
    (at0 0xFFFFFFFF).fetch = .ok 0xFFFFFFFF ∧ (at0 0x01000000).atEnd = false :=
  ⟨rfl, rfl, rfl, rfl, rfl, rfl, rfl, rfl⟩

/-- AssemblerAgreesWithEncoder, AcceptedLinesAssemble: an accepted branch, a refused misaligned one, an accepted BHS, a
refused line. -/
theorem witness_lines :
    (Instr.beq (BitVec.ofInt 22 (-36))).asm.wf = true ∧ (Instr.bal 6).asm.wf = false ∧ branchCond (.add 0 1 2) = none ∧
    AsmLine.wf ⟨"BHS", [.imm 16]⟩ = true ∧ AsmLine.wf ⟨"B", [.imm 16]⟩ = false := by decide

/-- FlagsWrittenOnlyBySForms, OnlyTheDestinationChanges, OnlyStoresChangeMemory, ProgramCounterAdvances,
DefinedInstructionsAreTotal: instructions of each kind that answer a next state. -/
theorem witness_exec :
    (isNext (exec (.adds 0 1 2) (at0 0)) = true ∧ setsFlags (.adds 0 1 2) = true ∧
      destination (.adds 0 1 2) = some 0) ∧
    (isNext (exec (.stri 3 8) (at0 0)) = true ∧ setsFlags (.stri 3 8) = false ∧ destination (.stri 3 8) = none ∧
      storeAccess (at0 0) (.stri 3 8) = some (.word, 8)) ∧
    (isNext (exec (.ldri 3 8) (at0 0)) = true ∧ storeAccess (at0 0) (.ldri 3 8) = none ∧
      loadAccess (at0 0) (.ldri 3 8) = some (.word, 8) ∧ loadAccess (at0 0) (.add 0 1 2) = none) ∧
    ((pcAt 2 Config.default).atEnd = false ∧ (pcAt 2 Config.default).pc.toNat % 4 ≠ 0) := by decide

/-- FlagsReadOnlyByBranches: a flag-setting shift by 0 under zero, one by 32 under unchanged, and no such shift. -/
theorem witness_flags_read :
    (branchCond (.shls 0 1 2) = none ∧ (at0 0).cfg.shiftZeroCarry = .zero ∧
      isNext (exec (.shls 0 1 2) (at0 0)) = true) ∧
    (flagShiftAmount (pcAt 0 { Config.default with shiftZeroCarry := .unchanged }) (.shlis 0 1 32) = some 32 ∧
      isNext (exec (.shlis 0 1 32) (pcAt 0 { Config.default with shiftZeroCarry := .unchanged })) = true) ∧
    (branchCond (.shl 0 1 2) = none ∧ flagShiftAmount (at0 0) (.shl 0 1 2) = none ∧
      isNext (exec (.shl 0 1 2) (at0 0)) = true) := by decide

/-- MemoryReadRule, MemoryWriteRule: under refuse a misaligned and an unmapped access, and little-endian. -/
theorem witness_memory_rules :
    ((strictAt 0).cfg.misalignedData = .refuse ∧ (10 : Word).toNat % Width.word.bytes ≠ 0) ∧
    ((16 : Word).toNat % Width.word.bytes = 0 ∧ (strictAt 0).mapped 16 = false) ∧
    (strictAt 0).cfg.byteOrder = .little ∧ (textAt 0).writeFault 8 .byte ≠ none := by decide

theorem witness_memory_read_value : (strictAt 0).memRead 12 .word = .ok 0 := rfl

/-- DefaultFaults: a state with the default map that faults. -/
theorem witness_default_fault :
    (at0 0xFFFFFFFF).cfg.memMap = Config.default.memMap ∧ (at0 0xFFFFFFFF).cfg.misalignedData = .allow ∧
    (at0 0xFFFFFFFF).cfg.resetPc = none ∧
    step (at0 0xFFFFFFFF) = .fault (.illegalInstruction 0) := ⟨rfl, rfl, rfl, rfl⟩

/-- QuotientAndRemainderAgree: -7 by 2 under both roundings. -/
theorem witness_quotient :
    (2 : Word) ≠ 0 ∧ ¬ ((0xFFFFFFF9 : Word) = 0x80000000 ∧ (2 : Word) = 0xFFFFFFFF) := by decide

/-- ShiftsIterateOnePositionShifts: an amount above 0. -/
theorem witness_shift_amount : 0 < (33 : Word).toNat := by decide

/-- LaunchSetsTheRun: the launch of R407, and one with a data byte on each side of the text and two of the flags. -/
def launchData : Launch :=
  { launch407 with data := [(0x10C, 0xAB), (0xFF, 0xCD)], flags := ⟨some true, none, some false, none⟩ }

theorem witness_launch :
    launch407.wf = true ∧ launch407.unambiguous = true ∧ launchData.wf = true ∧ launchData.unambiguous = true ∧
    launch34.wf = true ∧ launch34.unambiguous = true := by decide

/-- A launch that fixes R15 twice, and one whose data overlaps its text, are not unambiguous. -/
theorem witness_launch_ambiguous :
    Launch.unambiguous { launch407 with regs := [(15, 0x2000), (15, 0)] } = false ∧
    Launch.unambiguous { launch407 with data := [(0x10B, 0)] } = false := by decide

/-- LaunchedRunStartsInText: RESET_PC misaligned; at the first address after the text; at its last word; and a state
of the run that stands at RESET_PC. -/
theorem witness_launch_start :
    (launch407.endPc ≠ 0x102 ∧ (0x102 : Word).toNat % 4 ≠ 0) ∧
    ((0x10C : Word).toNat % 4 = 0 ∧ regionsHave launch407.textRegions 0x10C = false) ∧
    (regionsHave launch407.textRegions 0x108 = true ∧ (0x108 : Word) = 0x100 + BitVec.ofNat 32 (4 * 2) ∧
      decode 0xCC0F0000 = .instr (.jmp 15 0)) ∧
    (runsTo 0 (State.reset.launch launch407) (State.reset.launch launch407) ∧
      (State.reset.launch launch407).cfg.resetPc = some (State.reset.launch launch407).pc) :=
  ⟨by decide, by decide, by decide, rfl, rfl⟩

end Sys2Proof.Tests
end

/-!
PROOFS. A step of a state that is not final: what it fetches, decodes and executes (spec/00_scope.md R13). The fetch
and step rules serve every statement about `step`; the last theorem settles O28.
-/

namespace Sys2Proof.Machine

/-! ## The four-byte value (spec/20_memory.md R43) -/

/-- The four-byte read is the sum that R43 writes out, in either byte order. -/
theorem State.readValue_four (s : State) (a : Word) : s.readValue a 4 = wordAt s a := by
  have haddrs : byteAddrs a 4 = [a, a + 1, a + 2, a + 3] := by simp [byteAddrs, List.range_succ]
  unfold State.readValue wordAt
  rw [haddrs]
  cases s.cfg.byteOrder with
  | little =>
    change valueLE [s.byteAt a, s.byteAt (a + 1), s.byteAt (a + 2), s.byteAt (a + 3)] = _
    simp only [valueLE]
    omega
  | big =>
    change valueLE [s.byteAt (a + 3), s.byteAt (a + 2), s.byteAt (a + 1), s.byteAt a] = _
    simp only [valueLE]
    omega

/-! ## The premises of a step -/

/-- A state is not final exactly when its pc is not the `END_PC` of the launch (R405). -/
theorem State.atEnd_eq_false_iff (s : State) : s.atEnd = false ↔ s.cfg.endPc ≠ some s.pc := by
  unfold State.atEnd
  cases s.cfg.endPc <;> simp

/-- R401's fault is not due exactly when a pc at `RESET_PC` is in the text. -/
theorem State.startsOutsideText_eq_false_iff (s : State) :
    s.startsOutsideText = false ↔ (s.cfg.resetPc = some s.pc → s.inText s.pc = true) := by
  simp [State.startsOutsideText]

/-! ## Fetch, decode, execute (spec/00_scope.md R13) -/

/-- A state that is not final fetches, decodes, and executes what it decoded (R13). -/
theorem step_of_fetchDecode_ok (s : State) (i : Instr) (hend : s.atEnd = false) (hi : s.fetchDecode = .ok i) :
    step s = exec i s := by
  simp [step, hend, hi]

/-- A fetched word that decodes to an instruction is that instruction (R92). -/
theorem State.fetchDecode_of_fetch_ok (s : State) (w : Word) (i : Instr) (hw : s.fetch = .ok w)
    (hi : decode w = .instr i) : s.fetchDecode = .ok i := by
  simp [State.fetchDecode, hw, hi, decodeFault]

/-- The fetch from an aligned and mapped pc that R401 does not stop answers the word that R43 writes out. -/
theorem State.fetch_eq_wordAt (s : State) (haligned : s.pc.toNat % 4 = 0)
    (hmapped : ∀ k, k < 4 → s.mapped (s.pc + BitVec.ofNat 32 k) = true) (htext : s.startsOutsideText = false) :
    s.fetch = .ok (BitVec.ofNat 32 (wordAt s s.pc)) :=
  (State.fetch_ok s _).mpr ⟨haligned, hmapped, htext, by rw [State.readValue_four]⟩

/-! ## The step -/

/-- Settles O28: the fetch answers the word at pc, its decoding is `i`, and the step executes `i`. -/
theorem stepRunsDecodedInstruction : Obligations.StepRunsDecodedInstruction := by
  intro s i hend haligned hmapped htext hdecode
  have hfetch := s.fetch_eq_wordAt haligned hmapped (s.startsOutsideText_eq_false_iff.mpr htext)
  have hinstr := s.fetchDecode_of_fetch_ok _ i hfetch hdecode
  exact step_of_fetchDecode_ok s i (s.atEnd_eq_false_iff.mpr hend) hinstr

end Sys2Proof.Machine

/-!
PROOFS. The state family (spec/10_state.md). `ExecForm` says once, for every instruction, which shared operation its
meaning is and what the tables of Safety.lean say of it; the frame of the flags, the registers, the pc and the
configuration, and what the flags can influence, are read off its nine forms. Settles O34, O45, O46, O48, O50, O32 and
O58.
-/

namespace Sys2Proof.Machine

/-! ## The carry-in of a shift (spec/42_shift.md R201) -/

/-- A shift or rotate whose value is the same for every carry-in, and whose carry-out can depend on it only for an
amount of 0 under `SHIFT_ZERO_CARRY = unchanged` (R201, D13). -/
structure ReadsCarryOnlyAtZero (op : Config → Word → Word → Bool → AluOut) : Prop where
  value_eq : ∀ cfg a b c c', (op cfg a b c).value = (op cfg a b c').value
  op_eq : ∀ cfg a b c c', shiftAmount cfg b ≠ 0 ∨ cfg.shiftZeroCarry = .zero → op cfg a b c = op cfg a b c'

theorem zeroShiftCarry_of_zero (cfg : Config) (c : Bool) (h : cfg.shiftZeroCarry = .zero) :
    zeroShiftCarry cfg c = false := by
  rw [zeroShiftCarry, h]

/-- It is enough to look at the two sides of R201: an amount of 0 leaves the operand and C as `zeroShiftCarry` says, and
any other amount ignores the carry-in. -/
theorem ReadsCarryOnlyAtZero.of_amount {op : Config → Word → Word → Bool → AluOut}
    (hzero : ∀ cfg a b c, shiftAmount cfg b = 0 → op cfg a b c = ⟨a, zeroShiftCarry cfg c, false⟩)
    (hpos : ∀ cfg a b c c', shiftAmount cfg b ≠ 0 → op cfg a b c = op cfg a b c') : ReadsCarryOnlyAtZero op where
  value_eq cfg a b c c' := by
    by_cases hn : shiftAmount cfg b = 0
    · rw [hzero cfg a b c hn, hzero cfg a b c' hn]
    · rw [hpos cfg a b c c' hn]
  op_eq cfg a b c c' h := by
    by_cases hn : shiftAmount cfg b = 0
    · have hz := h.resolve_left (not_not_intro hn)
      rw [hzero cfg a b c hn, hzero cfg a b c' hn, zeroShiftCarry_of_zero cfg c hz, zeroShiftCarry_of_zero cfg c' hz]
    · exact hpos cfg a b c c' hn

theorem shlOp_readsCarryOnlyAtZero : ReadsCarryOnlyAtZero shlOp :=
  .of_amount (fun _ _ _ _ hn => by simp [shlOp, hn]) (fun _ _ _ _ _ hn => by simp [shlOp, hn])

theorem asrOp_readsCarryOnlyAtZero : ReadsCarryOnlyAtZero asrOp :=
  .of_amount (fun _ _ _ _ hn => by simp [asrOp, hn]) (fun _ _ _ _ _ hn => by simp [asrOp, hn])

theorem lsrOp_readsCarryOnlyAtZero : ReadsCarryOnlyAtZero lsrOp :=
  .of_amount (fun _ _ _ _ hn => by simp [lsrOp, hn]) (fun _ _ _ _ _ hn => by simp [lsrOp, hn])

theorem rolOp_readsCarryOnlyAtZero : ReadsCarryOnlyAtZero rolOp :=
  .of_amount (fun _ _ _ _ hn => by simp [rolOp, rotateLeftBy, hn]) (fun _ _ _ _ _ hn => by simp [rolOp, hn])

theorem rorOp_readsCarryOnlyAtZero : ReadsCarryOnlyAtZero rorOp :=
  .of_amount (fun _ _ _ _ hn => by simp [rorOp, rotateRightBy, hn]) (fun _ _ _ _ _ hn => by simp [rorOp, hn])

/-! ## The nine forms of a meaning -/

/-- What `i` computes from the state is the same under any other flags. -/
def FlagBlind {α : Type} (v : State → α) : Prop := ∀ s f, v (s.setFlags f) = v s

/-- The same, where `i` is no flag-setting shift by 0 under `SHIFT_ZERO_CARRY = unchanged` (R201). -/
def FlagBlindUnlessShiftByZero (i : Instr) (o : State → AluOut) : Prop :=
  ∀ s f, flagShiftAmount s i ≠ some 0 ∨ s.cfg.shiftZeroCarry = .zero → o (s.setFlags f) = o s

/-- No state sends the pc of `i` anywhere but to the next instruction. -/
def Sequential (i : Instr) : Prop := ∀ s, jumpTarget s i = none

/-- No state makes `i` access data memory. -/
def NoAccess (i : Instr) : Prop := ∀ s, loadAccess s i = none ∧ storeAccess s i = none

/-- The shared operation that the meaning of `i` is, with what the tables say of `i`: its destination, whether it is
an S form, where it sends the pc and what data memory it accesses; and that what it reads of the state is no flag. -/
inductive ExecForm (i : Instr) : Prop
  /-- A value to rD, no flag (R110). -/
  | writesReg (rd : Reg) (v : State → Word) (hexec : ∀ s, exec i s = writeReg rd (v s) s)
      (hdest : destination i = some rd) (hflags : setsFlags i = false) (hpc : Sequential i) (hmem : NoAccess i)
      (hblind : FlagBlind v)
  /-- A value to rD and all four flags (R111). -/
  | writesRegFlags (rd : Reg) (o : State → AluOut) (hexec : ∀ s, exec i s = writeRegFlags rd (o s) s)
      (hdest : destination i = some rd) (hflags : setsFlags i = true) (hpc : Sequential i) (hmem : NoAccess i)
      (hblind : FlagBlindUnlessShiftByZero i o)
  /-- The flags only: CMPS, CMPIS, BCHKS, BCHKIS (R129, R261). -/
  | writesFlags (o : State → AluOut) (hexec : ∀ s, exec i s = writeFlagsOnly (o s) s)
      (hdest : destination i = none) (hflags : setsFlags i = true) (hpc : Sequential i) (hmem : NoAccess i)
      (hblind : FlagBlind o)
  /-- Only the pc: CMP, CMPI, BCHK, BCHKI (R129, R261). -/
  | advances (hexec : ∀ s, exec i s = .next s.advance)
      (hdest : destination i = none) (hflags : setsFlags i = false) (hpc : Sequential i) (hmem : NoAccess i)
  /-- A load (R281). -/
  | loads (w : Width) (e : Extend) (rd : Reg) (ea : State → Word) (hexec : ∀ s, exec i s = load w e rd (ea s) s)
      (hdest : destination i = some rd) (hflags : setsFlags i = false) (hpc : Sequential i)
      (hmem : ∀ s, loadAccess s i = some (w, ea s) ∧ storeAccess s i = none) (hblind : FlagBlind ea)
  /-- A store (R282). -/
  | stores (w : Width) (rb : Reg) (ea : State → Word) (hexec : ∀ s, exec i s = store w rb (ea s) s)
      (hdest : destination i = none) (hflags : setsFlags i = false) (hpc : Sequential i)
      (hmem : ∀ s, loadAccess s i = none ∧ storeAccess s i = some (w, ea s)) (hblind : FlagBlind ea)
  /-- A branch (R321). -/
  | branches (c : Cond) (target : State → Word) (hexec : ∀ s, exec i s = branch c (target s) s)
      (hdest : destination i = none) (hflags : setsFlags i = false)
      (hpc : ∀ s, jumpTarget s i = if c.holds s.cfg.condLsLe s.flags then some (target s) else none)
      (hmem : NoAccess i) (hcond : branchCond i = some c)
  /-- A jump (R323, R324). -/
  | jumps (target : State → Word) (hexec : ∀ s, exec i s = jump (target s) s)
      (hdest : destination i = none) (hflags : setsFlags i = false) (hpc : ∀ s, jumpTarget s i = some (target s))
      (hmem : NoAccess i) (hblind : FlagBlind target)
  /-- A jump with link (R325, R326). -/
  | links (rd : Reg) (target : State → Word) (hexec : ∀ s, exec i s = jumpLink rd (target s) s)
      (hdest : destination i = some rd) (hflags : setsFlags i = false)
      (hpc : ∀ s, jumpTarget s i = some (target s)) (hmem : NoAccess i) (hblind : FlagBlind target)

/-- A condition on an amount, from the same condition on the amount as `flagShiftAmount` gives it. -/
theorem ne_zero_or_of_some {n : Nat} {p : Prop} (h : some n ≠ some 0 ∨ p) : n ≠ 0 ∨ p :=
  h.imp_left (mt (congrArg some))

/-- Every instruction has its form; a shift or rotate is told apart from the other value forms only by why its value
does not depend on C. -/
theorem execForm (i : Instr) : ExecForm i := by
  cases i with
  | mov | movi | moviz | movh | movhl | add | addi | sub | subi | mul | muli | mulh | mulhi | mulhu | mulhui | mulfx
  | mulfxi | div | divi | divu | divui | mod | modi | modu | modui | and | andi | or | ori | xor | xori | not | noti =>
    exact .writesReg _ _ (fun _ => rfl) rfl rfl (fun _ => rfl) (fun _ => ⟨rfl, rfl⟩) (fun _ _ => rfl)
  | shl | shli =>
    exact .writesReg _ _ (fun _ => rfl) rfl rfl (fun _ => rfl) (fun _ => ⟨rfl, rfl⟩)
      (fun _ _ => shlOp_readsCarryOnlyAtZero.value_eq _ _ _ _ _)
  | asr | asri =>
    exact .writesReg _ _ (fun _ => rfl) rfl rfl (fun _ => rfl) (fun _ => ⟨rfl, rfl⟩)
      (fun _ _ => asrOp_readsCarryOnlyAtZero.value_eq _ _ _ _ _)
  | lsr | lsri =>
    exact .writesReg _ _ (fun _ => rfl) rfl rfl (fun _ => rfl) (fun _ => ⟨rfl, rfl⟩)
      (fun _ _ => lsrOp_readsCarryOnlyAtZero.value_eq _ _ _ _ _)
  | rol | roli =>
    exact .writesReg _ _ (fun _ => rfl) rfl rfl (fun _ => rfl) (fun _ => ⟨rfl, rfl⟩)
      (fun _ _ => rolOp_readsCarryOnlyAtZero.value_eq _ _ _ _ _)
  | ror | rori =>
    exact .writesReg _ _ (fun _ => rfl) rfl rfl (fun _ => rfl) (fun _ => ⟨rfl, rfl⟩)
      (fun _ _ => rorOp_readsCarryOnlyAtZero.value_eq _ _ _ _ _)
  | adds | addis | subs | subis | muls | mulis | mulhs | mulhis | mulhus | mulhuis | mulfxs | mulfxis | divs | divis
  | divus | divuis | mods | modis | modus | moduis | ands | andis | ors | oris | xors | xoris | nots | notis =>
    exact .writesRegFlags _ _ (fun _ => rfl) rfl rfl (fun _ => rfl) (fun _ => ⟨rfl, rfl⟩) (fun _ _ _ => rfl)
  | shls | shlis =>
    exact .writesRegFlags _ _ (fun _ => rfl) rfl rfl (fun _ => rfl) (fun _ => ⟨rfl, rfl⟩)
      (fun _ _ h => shlOp_readsCarryOnlyAtZero.op_eq _ _ _ _ _ (ne_zero_or_of_some h))
  | asrs | asris =>
    exact .writesRegFlags _ _ (fun _ => rfl) rfl rfl (fun _ => rfl) (fun _ => ⟨rfl, rfl⟩)
      (fun _ _ h => asrOp_readsCarryOnlyAtZero.op_eq _ _ _ _ _ (ne_zero_or_of_some h))
  | lsrs | lsris =>
    exact .writesRegFlags _ _ (fun _ => rfl) rfl rfl (fun _ => rfl) (fun _ => ⟨rfl, rfl⟩)
      (fun _ _ h => lsrOp_readsCarryOnlyAtZero.op_eq _ _ _ _ _ (ne_zero_or_of_some h))
  | rols | rolis =>
    exact .writesRegFlags _ _ (fun _ => rfl) rfl rfl (fun _ => rfl) (fun _ => ⟨rfl, rfl⟩)
      (fun _ _ h => rolOp_readsCarryOnlyAtZero.op_eq _ _ _ _ _ (ne_zero_or_of_some h))
  | rors | roris =>
    exact .writesRegFlags _ _ (fun _ => rfl) rfl rfl (fun _ => rfl) (fun _ => ⟨rfl, rfl⟩)
      (fun _ _ h => rorOp_readsCarryOnlyAtZero.op_eq _ _ _ _ _ (ne_zero_or_of_some h))
  | cmps | cmpis | bchks | bchkis =>
    exact .writesFlags _ (fun _ => rfl) rfl rfl (fun _ => rfl) (fun _ => ⟨rfl, rfl⟩) (fun _ _ => rfl)
  | cmp | cmpi | bchk | bchki =>
    exact .advances (fun _ => rfl) rfl rfl (fun _ => rfl) (fun _ => ⟨rfl, rfl⟩)
  | ldr | ldri | ldrr | ldrb | ldrbi | ldrbr | ldrsb | ldrsbi | ldrsbr | ldrh | ldrhi | ldrhr | ldrsh | ldrshi
  | ldrshr =>
    exact .loads _ _ _ _ (fun _ => rfl) rfl rfl (fun _ => rfl) (fun _ => ⟨rfl, rfl⟩) (fun _ _ => rfl)
  | str | stri | strr | strb | strbi | strbr | strh | strhi | strhr =>
    exact .stores _ _ _ (fun _ => rfl) rfl rfl (fun _ => rfl) (fun _ => ⟨rfl, rfl⟩) (fun _ _ => rfl)
  | beq | bne | bcs | bcc | bmi | bpl | bvs | bvc | bhi | bls | bge | blt | bgt | ble | bal =>
    exact .branches _ _ (fun _ => rfl) rfl rfl (fun _ => rfl) (fun _ => ⟨rfl, rfl⟩) rfl
  | jmp | jmpi =>
    exact .jumps _ (fun _ => rfl) rfl rfl (fun _ => rfl) (fun _ => ⟨rfl, rfl⟩) (fun _ _ => rfl)
  | jmpl | jmpil =>
    exact .links _ _ (fun _ => rfl) rfl rfl (fun _ => rfl) (fun _ => ⟨rfl, rfl⟩) (fun _ _ => rfl)

/-! ## What every instruction leaves unchanged -/

/-- The frame of an instruction `i` from `s` to `t`: what it leaves as it was, and where it leaves the pc. -/
structure ExecFrame (i : Instr) (s t : State) : Prop where
  cfg_eq : t.cfg = s.cfg
  flags_eq : setsFlags i = false → t.flags = s.flags
  reg_eq : ∀ r, destination i ≠ some r → t.reg r = s.reg r
  mem_eq : storeAccess s i = none → t.mem = s.mem
  pc_eq : t.pc = (jumpTarget s i).getD s.nextPc

/-- A write of rD leaves the registers that are no destination. -/
theorem State.reg_setReg_of_destination {i : Instr} {rd r : Reg} (s : State) (v : Word)
    (hdest : destination i = some rd) (hr : destination i ≠ some r) : (s.setReg rd v).reg r = s.reg r :=
  s.reg_setReg_other rd r v fun e => hr (e ▸ hdest)

theorem Sequential.getD_jumpTarget {i : Instr} (h : Sequential i) (s : State) (a : Word) :
    (jumpTarget s i).getD a = a := by
  rw [h s, Option.getD_none]

/-- Every instruction keeps its frame. -/
theorem exec_frame (i : Instr) (s t : State) (h : exec i s = .next t) : ExecFrame i s t := by
  cases execForm i with
  | writesReg rd v hexec hdest hflags hpc =>
    obtain rfl := (writeReg_next _ _ _ _).mp (hexec s ▸ h)
    exact ⟨rfl, fun _ => rfl, fun r hr => s.reg_setReg_of_destination _ hdest hr, fun _ => rfl,
      (hpc.getD_jumpTarget s _).symm⟩
  | writesRegFlags rd o hexec hdest hflags hpc =>
    obtain rfl := (writeRegFlags_next _ _ _ _).mp (hexec s ▸ h)
    exact ⟨rfl, fun hno => absurd (hflags.symm.trans hno) (by decide),
      fun r hr => s.reg_setReg_of_destination _ hdest hr, fun _ => rfl, (hpc.getD_jumpTarget s _).symm⟩
  | writesFlags o hexec hdest hflags hpc =>
    obtain rfl := (writeFlagsOnly_next _ _ _).mp (hexec s ▸ h)
    exact ⟨rfl, fun hno => absurd (hflags.symm.trans hno) (by decide), fun _ _ => rfl, fun _ => rfl,
      (hpc.getD_jumpTarget s _).symm⟩
  | advances hexec hdest hflags hpc =>
    rw [hexec] at h
    cases h
    exact ⟨rfl, fun _ => rfl, fun _ _ => rfl, fun _ => rfl, (hpc.getD_jumpTarget s _).symm⟩
  | loads w e rd ea hexec hdest hflags hpc =>
    obtain ⟨-, rfl⟩ := (load_next _ _ _ _ _ _).mp (hexec s ▸ h)
    exact ⟨rfl, fun _ => rfl, fun r hr => s.reg_setReg_of_destination _ hdest hr, fun _ => rfl,
      (hpc.getD_jumpTarget s _).symm⟩
  | stores w rb ea hexec hdest hflags hpc hmem =>
    obtain ⟨-, rfl⟩ := (store_next _ _ _ _ _).mp (hexec s ▸ h)
    have hstore := (hmem s).2
    exact ⟨rfl, fun _ => rfl, fun _ _ => rfl, fun hno => by simp [hstore] at hno,
      (hpc.getD_jumpTarget s _).symm⟩
  | branches c target hexec hdest hflags hpc =>
    obtain rfl := (branch_next _ _ _ _).mp (hexec s ▸ h)
    refine ⟨rfl, fun _ => rfl, fun _ _ => rfl, fun _ => rfl, ?_⟩
    rw [hpc, State.setPc_pc]
    split <;> rfl
  | jumps target hexec hdest hflags hpc =>
    obtain rfl := (jump_next _ _ _).mp (hexec s ▸ h)
    exact ⟨rfl, fun _ => rfl, fun _ _ => rfl, fun _ => rfl, by rw [hpc]; rfl⟩
  | links rd target hexec hdest hflags hpc =>
    obtain rfl := (jumpLink_next _ _ _ _).mp (hexec s ▸ h)
    exact ⟨rfl, fun _ => rfl, fun r hr => s.reg_setReg_of_destination _ hdest hr, fun _ => rfl, by rw [hpc]; rfl⟩

/-! ## Steps and runs (spec/00_scope.md R13, spec/70_reset_and_hazards.md R405) -/

/-- A step that answers a next state executed the instruction that a state that is not final fetched and decoded. -/
theorem step_next (s t : State) :
    step s = .next t ↔ s.atEnd = false ∧ ∃ i, s.fetchDecode = .ok i ∧ exec i s = .next t := by
  unfold step
  cases s.atEnd with
  | true => simp
  | false => cases s.fetchDecode <;> simp

theorem runsTo_zero (s t : State) : runsTo 0 s t ↔ t = s :=
  ⟨fun h => by cases h; rfl, fun h => by rw [h]; rfl⟩

/-- A run of `k + 1` steps without a stop is a step and then a run of `k`, for any machine. -/
theorem run_succ_next (M : Host.Core) (k : Nat) (s t : M.State) :
    M.run (k + 1) s = .next t ↔ ∃ u, M.step s = .next u ∧ M.run k u = .next t := by
  rw [Host.Core.run]
  cases M.step s with
  | next u => simp
  | fault f => simp
  | refused r => simp

theorem runsTo_succ (k : Nat) (s t : State) : runsTo (k + 1) s t ↔ ∃ u, step s = .next u ∧ runsTo k u t :=
  run_succ_next Sys2Proof.core k s t

/-- What holds between a state and itself, and passes back over one step, holds between the two ends of a run. -/
theorem runsTo_induction {R : State → State → Prop} (hrefl : ∀ s, R s s)
    (hstep : ∀ s u t, step s = .next u → R u t → R s t) :
    ∀ (k : Nat) (s t : State), runsTo k s t → R s t := by
  intro k
  induction k with
  | zero =>
    intro s t h
    rw [(runsTo_zero s t).mp h]
    exact hrefl s
  | succ k ih =>
    intro s t h
    obtain ⟨u, hsu, hut⟩ := (runsTo_succ k s t).mp h
    exact hstep s u t hsu (ih u t hut)

theorem step_cfg (s t : State) (h : step s = .next t) : t.cfg = s.cfg := by
  obtain ⟨-, i, -, hexec⟩ := (step_next s t).mp h
  exact (exec_frame i s t hexec).cfg_eq

/-- Settles O34: no instruction writes the configuration, so no run does. -/
theorem runKeepsConfiguration : Obligations.RunKeepsConfiguration :=
  runsTo_induction (R := fun s t => t.cfg = s.cfg) (fun _ => rfl)
    fun s u _ hsu hut => hut.trans (step_cfg s u hsu)

/-! ## The flags that are written (spec/10_state.md R24, R25) -/

/-- N and Z of an S form with a destination speak of the value it leaves there (R111). -/
theorem exec_negative_zero_flags (i : Instr) (s t : State) (rd : Reg) (h : exec i s = .next t)
    (hflags : setsFlags i = true) (hdest : destination i = some rd) :
    t.flags.n = (t.reg rd).getLsbD 31 ∧ t.flags.z = decide (t.reg rd = 0) := by
  cases execForm i with
  | writesRegFlags rd' o hexec hdest' =>
    obtain rfl := (writeRegFlags_next _ _ _ _).mp (hexec s ▸ h)
    obtain rfl : rd' = rd := Option.some.inj (hdest'.symm.trans hdest)
    have hvalue : (((s.setReg rd' (o s).value).setFlags (o s).flags).advance).reg rd' = (o s).value := by simp
    rw [hvalue]
    exact ⟨rfl, rfl⟩
  | writesFlags o hexec hnone => simp [hnone] at hdest
  | writesReg _ _ _ _ hno | advances _ _ hno | loads _ _ _ _ _ _ hno | stores _ _ _ _ _ hno
  | branches _ _ _ _ hno | jumps _ _ _ hno | links _ _ _ _ hno => simp [hno] at hflags

/-- Settles O45: the frame of the flags, and N and Z of the one form that writes both a register and the flags. -/
theorem flagsWrittenOnlyBySForms : Obligations.FlagsWrittenOnlyBySForms := fun i s t h =>
  ⟨(exec_frame i s t h).flags_eq, fun rd => exec_negative_zero_flags i s t rd h⟩

/-! ## The registers and the pc (spec/10_state.md R20, R23, R28) -/

/-- Settles O46: the frame of the registers. -/
theorem onlyTheDestinationChanges : Obligations.OnlyTheDestinationChanges := fun i s t r h =>
  (exec_frame i s t h).reg_eq r

/-- JMP by an offset of 0 goes to the register's value as it is (R323). -/
theorem registerTarget_zero_setReg (s : State) (ra : Reg) (v : Word) : registerTarget ra 0 (s.setReg ra v) = v := by
  simp [registerTarget, zext]

/-- A misaligned pc is the first fault of a fetch (R48, R375). -/
theorem State.fetch_of_misaligned (s : State) (h : s.pc.toNat % 4 ≠ 0) :
    s.fetch = .error (.misalignedFetch s.pc) := by
  rw [State.fetch, if_pos h]

/-- A state that is not final and whose fetch faults stops with that fault (R13). -/
theorem step_of_fetch_error (s : State) (f : Fault) (hend : s.atEnd = false) (hf : s.fetch = .error f) :
    step s = .fault f := by
  simp [step, State.fetchDecode, hend, hf]

/-- Settles O48: the pc of the frame, the one jump whose target is a register's value, and the fetch from it. -/
theorem programCounterAdvances : Obligations.ProgramCounterAdvances := by
  refine ⟨fun i s t h => (exec_frame i s t h).pc_eq, fun s ra v => ?_, fun s hend hpc => ?_⟩
  · have htarget := registerTarget_zero_setReg s ra v
    exact (jump_next _ _ _).mpr (by rw [htarget])
  · exact step_of_fetch_error s _ hend (s.fetch_of_misaligned hpc)

/-! ## The flags that are read (spec/10_state.md R26) -/

/-- Settles O50: a form whose operands are blind to the flags answers the same under any others, and only a branch
reads them in the form itself. -/
theorem flagsReadOnlyByBranches : Obligations.FlagsReadOnlyByBranches := by
  intro i s t f hbranch hshift h
  cases execForm i with
  | writesReg rd v hexec hdest hflags hpc hmem hblind =>
    rw [hexec, writeReg_next] at h ⊢
    rw [h, hblind, hflags]
    rfl
  | writesRegFlags rd o hexec hdest hflags hpc hmem hblind =>
    rw [hexec, writeRegFlags_next] at h ⊢
    rw [h, hblind s f hshift, hflags]
    rfl
  | writesFlags o hexec hdest hflags hpc hmem hblind =>
    rw [hexec, writeFlagsOnly_next] at h ⊢
    rw [h, hblind, hflags]
    rfl
  | advances hexec hdest hflags =>
    rw [hexec] at h ⊢
    cases h
    rw [hflags]
    rfl
  | loads w e rd ea hexec hdest hflags hpc hmem hblind =>
    rw [hexec, load_next] at h ⊢
    obtain ⟨hacc, rfl⟩ := h
    rw [hblind, hflags]
    exact ⟨hacc, rfl⟩
  | stores w rb ea hexec hdest hflags hpc hmem hblind =>
    rw [hexec, store_next] at h ⊢
    obtain ⟨hacc, rfl⟩ := h
    rw [hblind, hflags]
    exact ⟨hacc, rfl⟩
  | branches c target hexec hdest hflags hpc hmem hcond => simp [hcond] at hbranch
  | jumps target hexec hdest hflags hpc hmem hblind =>
    rw [hexec, jump_next] at h ⊢
    rw [h, hblind, hflags]
    rfl
  | links rd target hexec hdest hflags hpc hmem hblind =>
    rw [hexec, jumpLink_next] at h ⊢
    rw [h, hblind, hflags]
    rfl

/-! ## The reset state and the register file (spec/10_state.md R20, R35) -/

/-- No byte is listed after reset (assumption 4). -/
theorem State.byteAt_reset (a : Word) : State.reset.byteAt a = 0 :=
  Memory.read_nil a.toNat

/-- Settles O32: the values of `State.reset`, field by field. -/
theorem resetValuesOfTheModel : Obligations.ResetValuesOfTheModel :=
  ⟨State.reg_reset, rfl, rfl, State.byteAt_reset, State.wf_reset, rfl⟩

/-- Settles O58: read after write, and extensionality of the register file. -/
theorem registerFile : Obligations.RegisterFile :=
  ⟨State.reg_setReg, State.x_eq_of_reg_eq⟩

end Sys2Proof.Machine

/-!
PROOFS. The memory family (spec/20_memory.md). First what MemRead and MemWrite answer: their faults in the order of
R375, the value of the bytes read and the bytes written. Then the one way an instruction, and so a step, can change
memory. Settles O33, O35, O47, O51 and O52.
-/

namespace Sys2Proof.Machine

/-! ## The bytes of a value (spec/20_memory.md R43, R44) -/

theorem valueLE_lt (bs : List Byte) : valueLE bs < 256 ^ bs.length := by
  induction bs with
  | nil => simp [valueLE]
  | cons b bs ih =>
    have hb : b.toNat < 256 := b.isLt
    rw [valueLE, List.length_cons, pow_succ]
    omega

theorem valueOf_lt (o : ByteOrder) (bs : List Byte) : valueOf o bs < 256 ^ bs.length := by
  simpa [valueOf] using valueLE_lt (orderBytes o bs)

theorem getElem_bytesLE (n v i : Nat) (hi : i < (bytesLE n v).length) :
    (bytesLE n v)[i] = BitVec.ofNat 8 (v / 256 ^ i) := by
  induction n generalizing v i with
  | zero => simp at hi
  | succ n ih =>
    cases i with
    | zero => simp [bytesLE]
    | succ i => simp [bytesLE, ih, Nat.div_div_eq_div_mul, pow_succ']

/-- Bits `8k + 7` down to `8k` are byte `k` of the value, counted from the least significant. -/
theorem extractLsb'_eq_ofNat_div (v : Word) (k : Nat) :
    v.extractLsb' (8 * k) 8 = BitVec.ofNat 8 (v.toNat / 256 ^ k) := by
  rw [BitVec.extractLsb', Nat.shiftRight_eq_div_pow, pow_mul]
  rfl

/-- Byte `i` in address order is the one that R44 puts there, in either byte order. -/
theorem getElem_bytesOf (o : ByteOrder) (n i : Nat) (v : Word) (hi : i < (bytesOf o n v.toNat).length) :
    (bytesOf o n v.toNat)[i] = storedByte o n i v := by
  cases o with
  | little => simp [bytesOf, orderBytes, storedByte, getElem_bytesLE, extractLsb'_eq_ofNat_div]
  | big => simp [bytesOf, orderBytes, storedByte, getElem_bytesLE, extractLsb'_eq_ofNat_div]

theorem Width.bytes_le (w : Width) : w.bytes ≤ 2 ^ 32 := by
  cases w <;> decide

theorem two_pow_eight_mul (n : Nat) : 2 ^ (8 * n) = 256 ^ n :=
  pow_mul 2 8 n

/-! ## The faults of an access (spec/60_exceptions.md R372, R375) -/

theorem State.misaligned_eq_true_iff (s : State) (a : Word) (w : Width) :
    s.misaligned a w = true ↔ s.cfg.misalignedData = .refuse ∧ a.toNat % w.bytes ≠ 0 := by
  unfold State.misaligned
  cases s.cfg.misalignedData <;> simp

/-- A read faults as misaligned if it is refused, and else as unmapped if it is not accessible (R47, R51). -/
theorem State.readFault_eq_some_iff (s : State) (a : Word) (w : Width) (f : Fault) :
    s.readFault a w = some f ↔
      (s.cfg.misalignedData = .refuse ∧ a.toNat % w.bytes ≠ 0 ∧ f = .misalignedData s.pc a) ∨
      ((s.cfg.misalignedData = .allow ∨ a.toNat % w.bytes = 0) ∧ ¬ accessible s w a ∧
        f = .unmappedAccess s.pc a) := by
  rw [← State.readFault_eq_none_iff, ← State.misaligned_eq_false_iff, ← and_assoc,
    ← State.misaligned_eq_true_iff, State.readFault]
  cases s.misaligned a w <;> cases s.allMapped a w.bytes <;> simp [eq_comm]

/-- A write faults as the read there would, and else as TextWrite if it is not writable (R44, R58). -/
theorem State.writeFault_eq_some_iff (s : State) (a : Word) (w : Width) (f : Fault) :
    s.writeFault a w = some f ↔
      s.readFault a w = some f ∨ (accessible s w a ∧ ¬ writable s w a ∧ f = .textWrite s.pc a) := by
  rw [← State.readFault_eq_none_iff, ← State.writeFault_eq_none_iff, State.writeFault]
  cases s.readFault a w with
  | some g => simp
  | none => cases (byteAddrs a w.bytes).any s.textProtected <;> simp [eq_comm]

/-- No read faults as TextWrite (R58 speaks of stores only). -/
theorem State.readFault_ne_textWrite (s : State) (a pc b : Word) (w : Width) :
    s.readFault a w ≠ some (.textWrite pc b) := by
  rw [ne_eq, State.readFault_eq_some_iff]
  rintro (⟨-, -, h⟩ | ⟨-, -, h⟩) <;> cases h

theorem writable_of_coherent {s : State} {w : Width} {a : Word} (hcoh : s.cfg.fetchCoherence = .coherent)
    (hacc : accessible s w a) : writable s w a :=
  ⟨hacc, fun _ _ => .inl hcoh⟩

/-- A write faults as TextWrite only where the text is immutable (R58). -/
theorem State.writeFault_ne_textWrite (s : State) (a pc b : Word) (w : Width)
    (hcoh : s.cfg.fetchCoherence = .coherent) : s.writeFault a w ≠ some (.textWrite pc b) := by
  intro h
  rcases (s.writeFault_eq_some_iff a w _).mp h with hread | ⟨hacc, hnot, -⟩
  · exact s.readFault_ne_textWrite a pc b w hread
  · exact hnot (writable_of_coherent hcoh hacc)

/-- An access to immutable text is not writable (R58). -/
theorem not_writable_of_inText {s : State} {w : Width} {a : Word} {k : Nat}
    (himm : s.cfg.fetchCoherence = .immutable) (hk : k < w.bytes)
    (htext : s.inText (a + BitVec.ofNat 32 k) = true) : ¬ writable s w a := by
  rintro ⟨-, hfree⟩
  simpa [himm, htext] using hfree k hk

/-! ## MemRead (spec/20_memory.md R43, R47, R49, R51) -/

theorem State.memRead_eq_ok_iff (s : State) (a : Word) (w : Width) (v : Nat) :
    s.memRead a w = .ok v ↔ accessible s w a ∧ v = s.readValue a w.bytes := by
  rw [← State.readFault_eq_none_iff, State.memRead]
  cases s.readFault a w <;> simp [eq_comm]

theorem State.memRead_eq_error_iff (s : State) (a : Word) (w : Width) (f : Fault) :
    s.memRead a w = .error f ↔ s.readFault a w = some f := by
  rw [State.memRead]
  cases s.readFault a w <;> simp

theorem State.readValue_one (s : State) (a : Word) : s.readValue a 1 = (s.byteAt a).toNat := by
  have haddrs : byteAddrs a 1 = [a] := by simp [byteAddrs, List.range_succ]
  rw [State.readValue, haddrs]
  cases s.cfg.byteOrder <;> simp [valueOf, orderBytes, valueLE]

theorem State.readValue_two (s : State) (a : Word) : s.readValue a 2 = halfAt s a := by
  have haddrs : byteAddrs a 2 = [a, a + 1] := by simp [byteAddrs, List.range_succ]
  rw [State.readValue, haddrs, halfAt]
  cases s.cfg.byteOrder <;> simp [valueOf, orderBytes, valueLE]

theorem State.readValue_lt (s : State) (a : Word) (n : Nat) : s.readValue a n < 2 ^ (8 * n) := by
  simpa [State.readValue, two_pow_eight_mul] using valueOf_lt s.cfg.byteOrder ((byteAddrs a n).map s.byteAt)

/-- The word at `0xFFFFFFFE` wraps to addresses 0 and 1 (R49). -/
theorem wordAt_wraps (s : State) (hlittle : s.cfg.byteOrder = .little) :
    wordAt s 0xFFFFFFFE = (s.byteAt 0xFFFFFFFE).toNat + 2 ^ 8 * (s.byteAt 0xFFFFFFFF).toNat +
      2 ^ 16 * (s.byteAt 0x00000000).toNat + 2 ^ 24 * (s.byteAt 0x00000001).toNat := by
  rw [wordAt, hlittle]
  rfl

/-- Settles O51: the value of an accessible read by its width, and its faults otherwise. -/
theorem memoryReadRule : Obligations.MemoryReadRule := by
  intro s a
  refine ⟨fun hacc => ?byte, fun hacc => ?half, fun hacc => ?word, fun w v hv => ?bound,
    fun w hrefuse hmis => ?misaligned, fun w haligned hacc => ?unmapped, wordAt_wraps s⟩
  case byte => exact (s.memRead_eq_ok_iff a .byte _).mpr ⟨hacc, (s.readValue_one a).symm⟩
  case half => exact (s.memRead_eq_ok_iff a .half _).mpr ⟨hacc, (s.readValue_two a).symm⟩
  case word => exact (s.memRead_eq_ok_iff a .word _).mpr ⟨hacc, (s.readValue_four a).symm⟩
  case bound =>
    obtain ⟨-, rfl⟩ := (s.memRead_eq_ok_iff a w v).mp hv
    exact s.readValue_lt a w.bytes
  case misaligned =>
    rw [State.memRead_eq_error_iff, State.readFault_eq_some_iff]
    exact .inl ⟨hrefuse, hmis, rfl⟩
  case unmapped =>
    rw [State.memRead_eq_error_iff, State.readFault_eq_some_iff]
    exact .inr ⟨haligned, hacc, rfl⟩

/-! ## MemWrite (spec/20_memory.md R44, R47, R58) -/

theorem State.memWrite_of_writable {s : State} {a : Word} {w : Width} (v : Nat) (h : writable s w a) :
    s.memWrite a w v = .ok (s.pokeValue a w.bytes v) := by
  rw [State.memWrite, (s.writeFault_eq_none_iff a w).mpr h]

theorem State.memWrite_of_not_writable {s : State} {a : Word} {w : Width} (v : Nat) (h : ¬ writable s w a) :
    ∃ f, s.memWrite a w v = .error f := by
  obtain ⟨f, hf⟩ := Option.ne_none_iff_exists'.mp (mt (s.writeFault_eq_none_iff a w).mp h)
  exact ⟨f, by rw [State.memWrite, hf]⟩

/-- Bytes written at different addresses: each reads back at its own. -/
theorem Memory.read_writeAll_zip (m : Memory) (addrs : List Nat) (bs : List Byte) (hn : addrs.Nodup)
    (hlen : addrs.length = bs.length) (i : Nat) (hi : i < addrs.length) :
    (m.writeAll (addrs.zip bs)).read addrs[i] = bs[i] := by
  have hfst : ((addrs.zip bs).map (·.1)).Nodup := by rwa [List.map_fst_zip hlen.le]
  have hzip : i < (addrs.zip bs).length := by simpa [← hlen] using hi
  have hcell : (addrs[i], bs[i]) ∈ addrs.zip bs := by simpa using List.getElem_mem hzip
  exact Memory.read_writeAll_mem _ m _ hfst hcell

/-- Byte `i` of the access reads as byte `i` of the value after the write (R44): no later byte lands on it. -/
theorem State.byteAt_pokeValue_getElem (s : State) (a : Word) (n v i : Nat) (hn : n ≤ 2 ^ 32) (hi : i < n) :
    (s.pokeValue a n v).byteAt (a + BitVec.ofNat 32 i) =
      (bytesOf s.cfg.byteOrder n v)[i]'(by simpa using hi) := by
  have hnodup : ((byteAddrs a n).map (·.toNat)).Nodup :=
    (nodup_byteAddrs a n hn).map fun _ _ => BitVec.eq_of_toNat_eq
  have haddr : ((byteAddrs a n).map (·.toNat))[i]'(by simpa using hi) = (a + BitVec.ofNat 32 i).toNat := by
    simp [byteAddrs]
  rw [State.byteAt, ← haddr]
  exact Memory.read_writeAll_zip s.mem _ _ hnodup (by simp) i _

/-- The bytes of a write stand where R44 puts them. -/
theorem State.byteAt_pokeValue (s : State) (a v : Word) (n i : Nat) (hn : n ≤ 2 ^ 32) (hi : i < n) :
    (s.pokeValue a n v.toNat).byteAt (a + BitVec.ofNat 32 i) = storedByte s.cfg.byteOrder n i v := by
  rw [State.byteAt_pokeValue_getElem s a n _ i hn hi, getElem_bytesOf]

/-- A read after a write of the same width answers the value's low bytes (R44). -/
theorem State.readValue_pokeValue (s : State) (a : Word) (n v : Nat) (hn : n ≤ 2 ^ 32) :
    (s.pokeValue a n v).readValue a n = v % 256 ^ n := by
  have hbytes : (byteAddrs a n).map (s.pokeValue a n v).byteAt = bytesOf s.cfg.byteOrder n v := by
    refine List.ext_getElem (by simp) fun i hi _ => ?_
    have hin : i < n := by simpa using hi
    simpa [byteAddrs] using s.byteAt_pokeValue_getElem a n v i hn hin
  rw [State.readValue, hbytes, State.pokeValue_cfg, valueOf_bytesOf]

/-- Which accesses a fault stops is a matter of the configuration, and a write leaves that. -/
theorem accessible_pokeValue (s : State) (a b : Word) (w : Width) (n v : Nat) :
    accessible (s.pokeValue b n v) w a ↔ accessible s w a := Iff.rfl

/-- Settles O52: what a write leaves, read byte by byte and whole, and that it writes nothing when it faults. -/
theorem memoryWriteRule : Obligations.MemoryWriteRule := by
  intro s a w v
  refine ⟨fun hw => ⟨_, State.memWrite_of_writable _ hw, fun i => s.byteAt_pokeValue a v _ i w.bytes_le,
    fun b => s.byteAt_pokeValue_other a b _ _, rfl, rfl, rfl, rfl, ?_⟩, State.memWrite_of_not_writable _⟩
  rw [State.memRead_eq_ok_iff, State.readValue_pokeValue s a _ _ w.bytes_le, two_pow_eight_mul]
  exact ⟨(accessible_pokeValue s a a w _ _).mpr hw.1, rfl⟩

/-! ## What an instruction and a step do to memory (spec/44_load_store.md R281, R282) -/

/-- An instruction with a store access is the store of some register there. -/
theorem exec_of_storeAccess {s : State} {i : Instr} {w : Width} {ea : Word} (h : storeAccess s i = some (w, ea)) :
    ∃ rb, exec i s = store w rb ea s := by
  cases execForm i with
  | stores w' rb ea' hexec _ _ _ hmem =>
    obtain ⟨rfl, rfl⟩ := Prod.mk.inj (Option.some.inj ((hmem s).2.symm.trans h))
    exact ⟨rb, hexec s⟩
  | writesReg _ _ _ _ _ _ hmem | writesRegFlags _ _ _ _ _ _ hmem | writesFlags _ _ _ _ _ hmem
  | advances _ _ _ _ hmem | loads _ _ _ _ _ _ _ _ hmem | branches _ _ _ _ _ _ hmem | jumps _ _ _ _ _ hmem
  | links _ _ _ _ _ _ hmem => simp [(hmem s).2] at h

/-- A store that answers a next state was writable and leaves the memory of MemWrite (R282). -/
theorem exec_mem_of_storeAccess {s t : State} {i : Instr} {w : Width} {ea : Word}
    (hst : storeAccess s i = some (w, ea)) (h : exec i s = .next t) :
    writable s w ea ∧ ∃ v, t.mem = (s.pokeValue ea w.bytes v).mem := by
  obtain ⟨rb, hexec⟩ := exec_of_storeAccess hst
  obtain ⟨hw, rfl⟩ := (store_next _ _ _ _ _).mp (hexec ▸ h)
  exact ⟨hw, _, rfl⟩

theorem State.byteAt_congr {s t : State} (h : t.mem = s.mem) (a : Word) : t.byteAt a = s.byteAt a := by
  rw [State.byteAt, State.byteAt, h]

/-- Settles O47: the frame of an instruction that is no store, and the bytes a MemWrite does not touch. -/
theorem onlyStoresChangeMemory : Obligations.OnlyStoresChangeMemory := by
  intro i s t h
  refine ⟨(exec_frame i s t h).mem_eq, fun w ea hst a hout => ?_⟩
  obtain ⟨-, v, hmem⟩ := exec_mem_of_storeAccess hst h
  rw [State.byteAt_congr hmem, s.byteAt_pokeValue_other ea a _ v hout]

/-- The memory after a step: the same, or that of one writable MemWrite. -/
theorem step_mem {s t : State} (h : step s = .next t) :
    t.mem = s.mem ∨ ∃ w ea v, writable s w ea ∧ t.mem = (s.pokeValue ea w.bytes v).mem := by
  obtain ⟨-, i, -, hexec⟩ := (step_next s t).mp h
  cases hst : storeAccess s i with
  | none => exact .inl ((exec_frame i s t hexec).mem_eq hst)
  | some access =>
    obtain ⟨hw, v, hmem⟩ := exec_mem_of_storeAccess hst hexec
    exact .inr ⟨_, _, v, hw, hmem⟩

/-- Settles O33: a MemWrite keeps the canonical form, and a step does nothing else to memory. -/
theorem stepKeepsMemoryCanonical : Obligations.StepKeepsMemoryCanonical := by
  intro s t hwf h
  rcases step_mem h with hmem | ⟨w, ea, v, -, hmem⟩
  · exact hmem ▸ hwf
  · exact hmem ▸ s.wf_pokeValue ea w.bytes v hwf

/-! ## Where the fault of a step comes from (spec/60_exceptions.md R372, R375) -/

theorem State.fetch_error {s : State} {f : Fault} (h : s.fetch = .error f) :
    f = .misalignedFetch s.pc ∨ f = .unmappedAccess s.pc s.pc := by
  unfold State.fetch at h
  split at h
  · exact .inl (Except.error.inj h).symm
  · split at h
    · exact .inr (Except.error.inj h).symm
    · cases h

theorem decodeFault_error {pc : Word} {d : Decoded} {f : Fault} (h : decodeFault pc d = .error f) :
    f = .illegalInstruction pc ∨ f = .reservedEncoding pc := by
  cases d with
  | instr i => cases h
  | illegalInstruction => exact .inl (Except.error.inj h).symm
  | reservedEncoding => exact .inr (Except.error.inj h).symm

/-- The faults before execution. -/
theorem State.fetchDecode_error {s : State} {f : Fault} (h : s.fetchDecode = .error f) :
    (f = .misalignedFetch s.pc ∨ f = .unmappedAccess s.pc s.pc) ∨
      f = .illegalInstruction s.pc ∨ f = .reservedEncoding s.pc := by
  unfold State.fetchDecode at h
  cases hfetch : s.fetch with
  | error g =>
    rw [hfetch] at h
    cases h
    exact .inl (State.fetch_error hfetch)
  | ok w =>
    rw [hfetch] at h
    exact .inr (decodeFault_error h)

/-- An instruction faults only by its load or its store. -/
theorem exec_fault {i : Instr} {s : State} {f : Fault} (h : exec i s = .fault f) :
    ∃ w ea, (loadAccess s i = some (w, ea) ∧ s.readFault ea w = some f) ∨
      (storeAccess s i = some (w, ea) ∧ s.writeFault ea w = some f) := by
  cases execForm i with
  | loads w e rd ea hexec _ _ _ hmem =>
    exact ⟨w, ea s, .inl ⟨(hmem s).1, (load_fault w e rd (ea s) s f).mp (hexec s ▸ h)⟩⟩
  | stores w rb ea hexec _ _ _ hmem =>
    exact ⟨w, ea s, .inr ⟨(hmem s).2, (store_fault w rb (ea s) s f).mp (hexec s ▸ h)⟩⟩
  | writesReg _ _ hexec | writesRegFlags _ _ hexec | writesFlags _ hexec | advances hexec | branches _ _ hexec
  | jumps _ hexec | links _ _ hexec => cases (hexec s).symm.trans h

/-- A step that faults did so before execution or in it. -/
theorem step_fault (s : State) (f : Fault) :
    step s = .fault f ↔
      s.atEnd = false ∧ (s.fetchDecode = .error f ∨ ∃ i, s.fetchDecode = .ok i ∧ exec i s = .fault f) := by
  unfold step
  cases s.atEnd with
  | true => simp
  | false => cases s.fetchDecode <;> simp

/-! ## The program text (spec/20_memory.md R58) -/

/-- A store that touches immutable text, and that no other fault stops, is TextWrite (R58, R375). -/
theorem exec_textWrite {s : State} {i : Instr} {w : Width} {ea : Word} (hst : storeAccess s i = some (w, ea))
    (hacc : accessible s w ea) (hnot : ¬ writable s w ea) : exec i s = .fault (.textWrite s.pc ea) := by
  obtain ⟨rb, hexec⟩ := exec_of_storeAccess hst
  rw [hexec, store_fault, State.writeFault_eq_some_iff]
  exact .inr ⟨hacc, hnot, rfl⟩

/-- Under coherent no step is TextWrite: no fault of a fetch, a decode or a read is one, and no store's there. -/
theorem step_ne_textWrite {s : State} (hcoh : s.cfg.fetchCoherence = .coherent) (pc a : Word) :
    step s ≠ .fault (.textWrite pc a) := by
  intro h
  obtain ⟨-, hfetch | ⟨i, -, hexec⟩⟩ := (step_fault s _).mp h
  · rcases State.fetchDecode_error hfetch with (hf | hf) | hf | hf <;> cases hf
  · obtain ⟨w, ea, ⟨-, hread⟩ | ⟨-, hwrite⟩⟩ := exec_fault hexec
    · exact s.readFault_ne_textWrite ea pc a w hread
    · exact s.writeFault_ne_textWrite ea pc a w hcoh hwrite

/-- A writable access touches no protected byte (R58). -/
theorem not_touches_of_textProtected {s : State} {w : Width} {ea a : Word} (hw : writable s w ea)
    (ha : s.textProtected a = true) : ¬ touches ea w.bytes a := by
  rintro ⟨k, hk, rfl⟩
  have hfree := (s.textProtected_eq_false_iff _).mpr (hw.2 k hk)
  exact Bool.false_ne_true (hfree.symm.trans ha)

theorem textKept_of_step {s t : State} (h : step s = .next t) : textKept s t := by
  intro a ha
  rcases step_mem h with hmem | ⟨w, ea, v, hw, hmem⟩
  · exact State.byteAt_congr hmem a
  · rw [State.byteAt_congr hmem, s.byteAt_pokeValue_other ea a _ v (not_touches_of_textProtected hw ha)]

/-- Which bytes are protected is a matter of the configuration. -/
theorem State.textProtected_congr {s t : State} (h : t.cfg = s.cfg) (a : Word) :
    t.textProtected a = s.textProtected a := by
  rw [State.textProtected, State.textProtected, State.inText, State.inText, h]

theorem textKept_trans {s u t : State} (hcfg : u.cfg = s.cfg) (hsu : textKept s u) (hut : textKept u t) :
    textKept s t := fun a ha =>
  (hut a ((State.textProtected_congr hcfg a).trans ha)).trans (hsu a ha)

/-- No run changes a byte of immutable text. -/
theorem textKept_of_runsTo : ∀ (k : Nat) (s t : State), runsTo k s t → textKept s t :=
  runsTo_induction (fun _ _ _ => rfl) fun s u _ hsu hut =>
    textKept_trans (step_cfg s u hsu) (textKept_of_step hsu) hut

/-- Settles O35: TextWrite exactly where it is due, the text over a run, and the word a fetch answers. -/
theorem programTextIsImmutable : Obligations.ProgramTextIsImmutable := by
  refine ⟨fun s i w ea himm hst hacc ⟨k, hk, htext⟩ => ?_, textKept_of_runsTo,
    fun s pc a hcoh => step_ne_textWrite hcoh pc a, fun s w hfetch => ?_⟩
  · exact exec_textWrite hst hacc (not_writable_of_inText himm hk htext)
  · obtain ⟨-, -, -, hword⟩ := (s.fetch_ok w).mp hfetch
    rw [hword, State.readValue_four]

end Sys2Proof.Machine

/-!
PROOFS. The decoder and the encoder (spec/30_encoding.md R70 to R90). A word is the bits its format fixes and its
fields, so what a format's decoder accepts is the encoding of what it answers. `EncodingForm` says once, for every
instruction, in which format it is encoded, by which decoder it is read and how its line is written. Settles O37 and
O36.
-/

namespace Sys2Proof

/-! ## The fields of a word put back where they stand (R70 to R81) -/

/-- A field read and put back is the word under the field's mask. -/
theorem putField_extractLsb' (w : Word) (lo n : Nat) :
    putField (w.extractLsb' lo n) lo = w &&& putField (BitVec.allOnes n) lo := by
  refine BitVec.eq_of_getLsbD_eq fun i hi => ?_
  rw [getLsbD_putField, BitVec.getLsbD_and, getLsbD_putField, BitVec.getLsbD_extractLsb', BitVec.getLsbD_allOnes]
  by_cases h : lo ≤ i
  · simp [h, hi, Bool.and_comm]
  · simp [h]

theorem ofBool_getLsbD (w : Word) (k : Nat) : BitVec.ofBool (w.getLsbD k) = w.extractLsb' k 1 := by
  refine BitVec.eq_of_getLsbD_eq fun i hi => ?_
  obtain rfl : i = 0 := by omega
  simp

@[simp] theorem putField_opcodeField (w : Word) : putField (opcodeField w) 26 = w &&& 0xFC000000 :=
  putField_extractLsb' w 26 6

@[simp] theorem putField_mode25 (w : Word) : putField (BitVec.ofBool (mode25 w)) 25 = w &&& 0x02000000 := by
  rw [mode25, ofBool_getLsbD]
  exact putField_extractLsb' w 25 1

@[simp] theorem putField_mode24 (w : Word) : putField (BitVec.ofBool (mode24 w)) 24 = w &&& 0x01000000 := by
  rw [mode24, ofBool_getLsbD]
  exact putField_extractLsb' w 24 1

@[simp] theorem putField_fieldD (w : Word) : putField (fieldD w) 20 = w &&& 0x00F00000 :=
  putField_extractLsb' w 20 4

@[simp] theorem putField_fieldA (w : Word) : putField (fieldA w) 16 = w &&& 0x000F0000 :=
  putField_extractLsb' w 16 4

@[simp] theorem putField_fieldB (w : Word) : putField (fieldB w) 12 = w &&& 0x0000F000 :=
  putField_extractLsb' w 12 4

@[simp] theorem putField_low12 (w : Word) : putField (low12 w) 0 = w &&& 0x00000FFF :=
  putField_extractLsb' w 0 12

@[simp] theorem putField_imm16Field (w : Word) : putField (imm16Field w) 0 = w &&& 0x0000FFFF :=
  putField_extractLsb' w 0 16

@[simp] theorem putField_imm20Field (w : Word) : putField (imm20Field w) 0 = w &&& 0x000FFFFF :=
  putField_extractLsb' w 0 20

@[simp] theorem putField_imm24Field (w : Word) : putField (imm24Field w) 0 = w &&& 0x00FFFFFF :=
  putField_extractLsb' w 0 24

@[simp] theorem putField_imm22Field (w : Word) : putField (imm22Field w) 4 = w &&& 0x03FFFFF0 :=
  putField_extractLsb' w 4 22

@[simp] theorem putField_condField (w : Word) : putField (condField w) 0 = w &&& 0x0000000F :=
  putField_extractLsb' w 0 4

/-- The high part of a split immediate (R84). -/
theorem extractLsb'_join_high {hi lo n : Nat} (a : BitVec hi) (b : BitVec lo) (h : n = hi + lo) :
    (a.setWidth n <<< lo ||| b.setWidth n).extractLsb' lo hi = a := by
  refine BitVec.eq_of_getLsbD_eq fun i hi' => ?_
  rw [BitVec.getLsbD_extractLsb', BitVec.getLsbD_or, BitVec.getLsbD_shiftLeft, BitVec.getLsbD_setWidth,
    BitVec.getLsbD_setWidth, BitVec.getLsbD_of_ge b (lo + i) (by omega), Nat.add_sub_cancel_left]
  simp [hi', show lo + i < n by omega, show i < n by omega]

/-- The low part of a split immediate (R84). -/
theorem extractLsb'_join_low {hi lo n : Nat} (a : BitVec hi) (b : BitVec lo) (h : n = hi + lo) :
    (a.setWidth n <<< lo ||| b.setWidth n).extractLsb' 0 lo = b := by
  refine BitVec.eq_of_getLsbD_eq fun i hi' => ?_
  rw [BitVec.getLsbD_extractLsb', BitVec.getLsbD_or, BitVec.getLsbD_shiftLeft, BitVec.getLsbD_setWidth]
  simp [hi', show i < n by omega]

@[simp] theorem extractLsb'_storeImm16_high (w : Word) : (storeImm16 w).extractLsb' 12 4 = fieldD w :=
  extractLsb'_join_high (fieldD w) (low12 w) rfl

@[simp] theorem extractLsb'_storeImm16_low (w : Word) : (storeImm16 w).extractLsb' 0 12 = low12 w :=
  extractLsb'_join_low (fieldD w) (low12 w) rfl

@[simp] theorem putField_storeImm20_high (w : Word) :
    putField ((storeImm20 w).extractLsb' 12 8) 16 = w &&& 0x00FF0000 := by
  rw [storeImm20, extractLsb'_join_high _ _ rfl]
  exact putField_extractLsb' w 16 8

@[simp] theorem extractLsb'_storeImm20_low (w : Word) : (storeImm20 w).extractLsb' 0 12 = low12 w :=
  extractLsb'_join_low (w.extractLsb' 16 8) (low12 w) rfl

/-! ## A word is its fixed bits and its fields

For each format the fixed bits are those of its mask in spec/opcode_table.json, and the fields are the rest. -/

/-- The parts of a word under two masks, together. -/
theorem and_or_and (w m n : Word) : w &&& m ||| w &&& n = w &&& (m ||| n) :=
  BitVec.and_or_distrib_left.symm

theorem and_ones (w : Word) : w &&& 0xFFFFFFFF#32 = w :=
  BitVec.and_allOnes

section
variable {op : Opcode} {m25 m24 : Bool} {w : Word}

theorem encodeRRR_fields (h : w &&& 0xFF000FFF = encodeHead op m25 m24) :
    encodeRRR op m25 m24 (fieldD w) (fieldA w) (fieldB w) = w := by
  simp [encodeRRR, ← h, and_or_and, and_ones]

theorem encodeRRI16_fields (h : w &&& 0xFF000000 = encodeHead op m25 m24) :
    encodeRRI16 op m25 m24 (fieldD w) (fieldA w) (imm16Field w) = w := by
  simp [encodeRRI16, ← h, and_or_and, and_ones]

theorem encodeRxR_fields (h : w &&& 0xFF0F0FFF = encodeHead op m25 m24) :
    encodeRxR op m25 m24 (fieldD w) (fieldB w) = w := by
  simp [encodeRxR, ← h, and_or_and, and_ones]

theorem encodeRI20_fields (h : w &&& 0xFF000000 = encodeHead op m25 m24) :
    encodeRI20 op m25 m24 (fieldD w) (imm20Field w) = w := by
  simp [encodeRI20, ← h, and_or_and, and_ones]

theorem encodeRxI16_fields (h : w &&& 0xFF0F0000 = encodeHead op m25 m24) :
    encodeRxI16 op m25 m24 (fieldD w) (imm16Field w) = w := by
  simp [encodeRxI16, ← h, and_or_and, and_ones]

theorem encodeXRR_fields (h : w &&& 0xFFF00FFF = encodeHead op m25 m24) :
    encodeXRR op m25 m24 (fieldA w) (fieldB w) = w := by
  simp [encodeXRR, ← h, and_or_and, and_ones]

theorem encodeXRI16_fields (h : w &&& 0xFFF00000 = encodeHead op m25 m24) :
    encodeXRI16 op m25 m24 (fieldA w) (imm16Field w) = w := by
  simp [encodeXRI16, ← h, and_or_and, and_ones]

theorem encodeSD16_fields (h : w &&& 0xFF000000 = encodeHead op m25 m24) :
    encodeSD16 op m25 m24 (fieldB w) (fieldA w) (storeImm16 w) = w := by
  simp [encodeSD16, ← h, and_or_and, and_ones]

theorem encodeS20_fields (h : w &&& 0xFF000000 = encodeHead op m25 m24) :
    encodeS20 op m25 m24 (fieldB w) (storeImm20 w) = w := by
  simp [encodeS20, ← h, and_or_and, and_ones]

theorem encodeB_fields {cond : BitVec 4} (h : w &&& 0xFC00000F = putField Opcode.b.bits 26 ||| putField cond 0) :
    encodeB (imm22Field w) cond = w := by
  rw [encodeB, BitVec.or_assoc, BitVec.or_comm (putField _ 4), ← BitVec.or_assoc, ← h]
  simp [and_or_and, and_ones]

theorem encodeI24_fields (h : w &&& 0xFF000000 = encodeHead op m25 m24) :
    encodeI24 op m25 m24 (imm24Field w) = w := by
  simp [encodeI24, ← h, and_or_and, and_ones]

end

/-! ## Opcode and mode bits (R70, R82, R86) -/

/-- The opcode of a field value is the one with those bits (R86). -/
theorem Opcode.ofBits_eq_some_iff (b : BitVec 6) (op : Opcode) : Opcode.ofBits b = some op ↔ b = op.bits := by
  refine ⟨fun h => ?_, fun h => h ▸ Opcode.ofBits_bits op⟩
  unfold Opcode.ofBits at h
  split at h <;> cases h <;> exact BitVec.eq_of_toNat_eq ‹_›

/-- The opcode and the mode bits of a word. -/
structure HasHead (w : Word) (op : Opcode) (m25 m24 : Bool) : Prop where
  opcode : opcodeField w = op.bits
  mode25 : mode25 w = m25
  mode24 : mode24 w = m24

/-- The head of a word, bits 31:24, is its opcode and its mode bits. -/
theorem HasHead.and_eq {w : Word} {op : Opcode} {m25 m24 : Bool} (h : HasHead w op m25 m24) :
    w &&& 0xFF000000 = encodeHead op m25 m24 := by
  rw [encodeHead, ← h.opcode, ← h.mode25, ← h.mode24]
  simp [and_or_and]

/-- A word decodes to what its opcode's form gives it. -/
theorem decode_of_decodeForm {w : Word} {op : Opcode} {i : Instr} (hop : opcodeField w = op.bits)
    (h : decodeForm op w = some i) : decode w = .instr i := by
  simp [decode, hop, h]

/-- A word of an assigned opcode that has no form of it is reserved (R87, R88, R90). -/
theorem decode_of_decodeForm_none {w : Word} {op : Opcode} (hop : opcodeField w = op.bits)
    (h : decodeForm op w = none) : decode w = .reservedEncoding := by
  simp [decode, hop, h]

/-- What a word can decode to, and when (R89, R92). -/
theorem decode_cases (w : Word) :
    (∃ op i, opcodeField w = op.bits ∧ decodeForm op w = some i ∧ decode w = .instr i) ∨
    (∃ op, opcodeField w = op.bits ∧ decodeForm op w = none ∧ decode w = .reservedEncoding) ∨
    ((∀ op : Opcode, opcodeField w ≠ op.bits) ∧ decode w = .illegalInstruction) := by
  cases hbits : Opcode.ofBits (opcodeField w) with
  | none =>
    refine .inr (.inr ⟨fun op hop => ?_, by simp [decode, hbits]⟩)
    simp [hop] at hbits
  | some op =>
    have hop := (Opcode.ofBits_eq_some_iff _ _).mp hbits
    cases hform : decodeForm op w with
    | none => exact .inr (.inl ⟨op, hop, hform, decode_of_decodeForm_none hop hform⟩)
    | some i => exact .inl ⟨op, i, hop, hform, decode_of_decodeForm hop hform⟩

/-! ## Each format's decoder is undone by its encoder (R71 to R81, R87)

The head gives bits 31:24 of the word, the check of the decoder its reserved fields, and the instruction the rest. -/

/-- The parts of a word that an equation names, joined. -/
theorem and_eq_of_reserved {w m r v : Word} (hv : w &&& m = v) (hr : w &&& r = 0) : w &&& (m ||| r) = v := by
  simp [← and_or_and, hv, hr]

theorem and_low12_of_eq_zero {w : Word} (h : low12 w = 0) : w &&& 0x00000FFF = 0 := by
  rw [← putField_low12, h]
  rfl

theorem and_fieldA_of_eq_zero {w : Word} (h : fieldA w = 0) : w &&& 0x000F0000 = 0 := by
  rw [← putField_fieldA, h]
  rfl

theorem and_fieldD_of_eq_zero {w : Word} (h : fieldD w = 0) : w &&& 0x00F00000 = 0 := by
  rw [← putField_fieldD, h]
  rfl

section
variable {op : Opcode} {m25 m24 : Bool} {w : Word} {i : Instr}

theorem encode_of_decodeRRR {mk : Reg → Reg → Reg → Instr} (hhead : HasHead w op m25 m24)
    (henc : ∀ d a b, encode (mk d a b) = encodeRRR op m25 m24 d a b) (h : decodeRRR mk w = some i) :
    encode i = w := by
  obtain ⟨hlow, rfl⟩ : low12 w = 0 ∧ mk (fieldD w) (fieldA w) (fieldB w) = i := by simpa [decodeRRR] using h
  rw [henc]
  exact encodeRRR_fields (and_eq_of_reserved hhead.and_eq (and_low12_of_eq_zero hlow))

theorem encode_of_decodeRRI16 {mk : Reg → Reg → BitVec 16 → Instr} (hhead : HasHead w op m25 m24)
    (henc : ∀ d a imm, encode (mk d a imm) = encodeRRI16 op m25 m24 d a imm) (h : decodeRRI16 mk w = some i) :
    encode i = w := by
  obtain rfl := Option.some.inj h
  rw [henc]
  exact encodeRRI16_fields hhead.and_eq

theorem encode_of_decodeRxR {mk : Reg → Reg → Instr} (hhead : HasHead w op m25 m24)
    (henc : ∀ d b, encode (mk d b) = encodeRxR op m25 m24 d b) (h : decodeRxR mk w = some i) : encode i = w := by
  obtain ⟨⟨hA, hlow⟩, rfl⟩ : (fieldA w = 0 ∧ low12 w = 0) ∧ mk (fieldD w) (fieldB w) = i := by
    simpa [decodeRxR] using h
  rw [henc]
  exact encodeRxR_fields (and_eq_of_reserved (and_eq_of_reserved hhead.and_eq (and_fieldA_of_eq_zero hA))
    (and_low12_of_eq_zero hlow))

theorem encode_of_decodeRI20 {mk : Reg → BitVec 20 → Instr} (hhead : HasHead w op m25 m24)
    (henc : ∀ d imm, encode (mk d imm) = encodeRI20 op m25 m24 d imm) (h : decodeRI20 mk w = some i) :
    encode i = w := by
  obtain rfl := Option.some.inj h
  rw [henc]
  exact encodeRI20_fields hhead.and_eq

theorem encode_of_decodeRxI16 {mk : Reg → BitVec 16 → Instr} (hhead : HasHead w op m25 m24)
    (henc : ∀ d imm, encode (mk d imm) = encodeRxI16 op m25 m24 d imm) (h : decodeRxI16 mk w = some i) :
    encode i = w := by
  obtain ⟨hA, rfl⟩ : fieldA w = 0 ∧ mk (fieldD w) (imm16Field w) = i := by simpa [decodeRxI16] using h
  rw [henc]
  exact encodeRxI16_fields (and_eq_of_reserved hhead.and_eq (and_fieldA_of_eq_zero hA))

theorem encode_of_decodeXRR {mk : Reg → Reg → Instr} (hhead : HasHead w op m25 m24)
    (henc : ∀ a b, encode (mk a b) = encodeXRR op m25 m24 a b) (h : decodeXRR mk w = some i) : encode i = w := by
  obtain ⟨⟨hD, hlow⟩, rfl⟩ : (fieldD w = 0 ∧ low12 w = 0) ∧ mk (fieldA w) (fieldB w) = i := by
    simpa [decodeXRR] using h
  rw [henc]
  exact encodeXRR_fields (and_eq_of_reserved (and_eq_of_reserved hhead.and_eq (and_fieldD_of_eq_zero hD))
    (and_low12_of_eq_zero hlow))

theorem encode_of_decodeXRI16 {mk : Reg → BitVec 16 → Instr} (hhead : HasHead w op m25 m24)
    (henc : ∀ a imm, encode (mk a imm) = encodeXRI16 op m25 m24 a imm) (h : decodeXRI16 mk w = some i) :
    encode i = w := by
  obtain ⟨hD, rfl⟩ : fieldD w = 0 ∧ mk (fieldA w) (imm16Field w) = i := by simpa [decodeXRI16] using h
  rw [henc]
  exact encodeXRI16_fields (and_eq_of_reserved hhead.and_eq (and_fieldD_of_eq_zero hD))

theorem encode_of_decodeSD16 {mk : Reg → Reg → BitVec 16 → Instr} (hhead : HasHead w op m25 m24)
    (henc : ∀ b a imm, encode (mk b a imm) = encodeSD16 op m25 m24 b a imm) (h : decodeSD16 mk w = some i) :
    encode i = w := by
  obtain rfl := Option.some.inj h
  rw [henc]
  exact encodeSD16_fields hhead.and_eq

theorem encode_of_decodeS20 {mk : Reg → BitVec 20 → Instr} (hhead : HasHead w op m25 m24)
    (henc : ∀ b imm, encode (mk b imm) = encodeS20 op m25 m24 b imm) (h : decodeS20 mk w = some i) :
    encode i = w := by
  obtain rfl := Option.some.inj h
  rw [henc]
  exact encodeS20_fields hhead.and_eq

theorem encode_of_decodeI24 {mk : BitVec 24 → Instr} (hhead : HasHead w op m25 m24)
    (henc : ∀ imm, encode (mk imm) = encodeI24 op m25 m24 imm) (h : decodeI24 mk w = some i) : encode i = w := by
  obtain rfl := Option.some.inj h
  rw [henc]
  exact encodeI24_fields hhead.and_eq

/-- The fixed bits of a branch: its opcode and its condition (R80). -/
theorem and_eq_of_condField {cond : BitVec 4} (hop : opcodeField w = Opcode.b.bits) (hcond : condField w = cond) :
    w &&& 0xFC00000F = putField Opcode.b.bits 26 ||| putField cond 0 := by
  rw [← hop, ← hcond]
  simp [and_or_and]

theorem encode_of_decodeB (hop : opcodeField w = Opcode.b.bits) (h : decodeB w = some i) : encode i = w := by
  unfold decodeB at h
  split at h <;> cases h <;> exact encodeB_fields (and_eq_of_condField hop (BitVec.eq_of_toNat_eq ‹_›))

/-! ## The same for the forms of an opcode (R82, R88) -/

theorem encode_of_decodeAlu {mk mkS : Reg → Reg → Reg → Instr} {mkI mkIS : Reg → Reg → BitVec 16 → Instr}
    (hmk : ∀ d a b, encode (mk d a b) = encodeRRR op false false d a b)
    (hmkS : ∀ d a b, encode (mkS d a b) = encodeRRR op false true d a b)
    (hmkI : ∀ d a imm, encode (mkI d a imm) = encodeRRI16 op true false d a imm)
    (hmkIS : ∀ d a imm, encode (mkIS d a imm) = encodeRRI16 op true true d a imm)
    (hop : opcodeField w = op.bits) (h : decodeAlu mk mkS mkI mkIS w = some i) : encode i = w := by
  unfold decodeAlu at h
  split at h
  next h25 h24 => exact encode_of_decodeRRR ⟨hop, h25, h24⟩ hmk h
  next h25 h24 => exact encode_of_decodeRRR ⟨hop, h25, h24⟩ hmkS h
  next h25 h24 => exact encode_of_decodeRRI16 ⟨hop, h25, h24⟩ hmkI h
  next h25 h24 => exact encode_of_decodeRRI16 ⟨hop, h25, h24⟩ hmkIS h

theorem encode_of_decodeTest {mk mkS : Reg → Reg → Instr} {mkI mkIS : Reg → BitVec 16 → Instr}
    (hmk : ∀ a b, encode (mk a b) = encodeXRR op false false a b)
    (hmkS : ∀ a b, encode (mkS a b) = encodeXRR op false true a b)
    (hmkI : ∀ a imm, encode (mkI a imm) = encodeXRI16 op true false a imm)
    (hmkIS : ∀ a imm, encode (mkIS a imm) = encodeXRI16 op true true a imm)
    (hop : opcodeField w = op.bits) (h : decodeTest mk mkS mkI mkIS w = some i) : encode i = w := by
  unfold decodeTest at h
  split at h
  next h25 h24 => exact encode_of_decodeXRR ⟨hop, h25, h24⟩ hmk h
  next h25 h24 => exact encode_of_decodeXRR ⟨hop, h25, h24⟩ hmkS h
  next h25 h24 => exact encode_of_decodeXRI16 ⟨hop, h25, h24⟩ hmkI h
  next h25 h24 => exact encode_of_decodeXRI16 ⟨hop, h25, h24⟩ hmkIS h

theorem encode_of_decodeLoad {mk : Reg → Reg → BitVec 16 → Instr} {mkI mkR : Reg → BitVec 20 → Instr}
    (hmk : ∀ d a imm, encode (mk d a imm) = encodeRRI16 op false false d a imm)
    (hmkI : ∀ d imm, encode (mkI d imm) = encodeRI20 op true false d imm)
    (hmkR : ∀ d imm, encode (mkR d imm) = encodeRI20 op false true d imm)
    (hop : opcodeField w = op.bits) (h : decodeLoad mk mkI mkR w = some i) : encode i = w := by
  unfold decodeLoad at h
  split at h
  next h25 h24 => exact encode_of_decodeRRI16 ⟨hop, h25, h24⟩ hmk h
  next h25 h24 => exact encode_of_decodeRI20 ⟨hop, h25, h24⟩ hmkI h
  next h25 h24 => exact encode_of_decodeRI20 ⟨hop, h25, h24⟩ hmkR h
  next => cases h

theorem encode_of_decodeStore {mk : Reg → Reg → BitVec 16 → Instr} {mkI mkR : Reg → BitVec 20 → Instr}
    (hmk : ∀ b a imm, encode (mk b a imm) = encodeSD16 op false false b a imm)
    (hmkI : ∀ b imm, encode (mkI b imm) = encodeS20 op true false b imm)
    (hmkR : ∀ b imm, encode (mkR b imm) = encodeS20 op false true b imm)
    (hop : opcodeField w = op.bits) (h : decodeStore mk mkI mkR w = some i) : encode i = w := by
  unfold decodeStore at h
  split at h
  next h25 h24 => exact encode_of_decodeSD16 ⟨hop, h25, h24⟩ hmk h
  next h25 h24 => exact encode_of_decodeS20 ⟨hop, h25, h24⟩ hmkI h
  next h25 h24 => exact encode_of_decodeS20 ⟨hop, h25, h24⟩ hmkR h
  next => cases h

theorem encode_of_decodeMov (hop : opcodeField w = Opcode.mov.bits) (h : decodeMov w = some i) : encode i = w := by
  unfold decodeMov at h
  split at h
  next h25 h24 => exact encode_of_decodeRxR ⟨hop, h25, h24⟩ (fun _ _ => rfl) h
  next h25 h24 => exact encode_of_decodeRI20 ⟨hop, h25, h24⟩ (fun _ _ => rfl) h
  next h25 h24 => exact encode_of_decodeRI20 ⟨hop, h25, h24⟩ (fun _ _ => rfl) h
  next => cases h

theorem encode_of_decodeMovh (hop : opcodeField w = Opcode.movh.bits) (h : decodeMovh w = some i) :
    encode i = w := by
  unfold decodeMovh at h
  split at h
  next h25 h24 => exact encode_of_decodeRxI16 ⟨hop, h25, h24⟩ (fun _ _ => rfl) h
  next h25 h24 => exact encode_of_decodeRI20 ⟨hop, h25, h24⟩ (fun _ _ => rfl) h
  next => cases h
  next => cases h

theorem encode_of_decodeNot (hop : opcodeField w = Opcode.not.bits) (h : decodeNot w = some i) : encode i = w := by
  unfold decodeNot at h
  split at h
  next h25 h24 => exact encode_of_decodeRxR ⟨hop, h25, h24⟩ (fun _ _ => rfl) h
  next h25 h24 => exact encode_of_decodeRxR ⟨hop, h25, h24⟩ (fun _ _ => rfl) h
  next h25 h24 => exact encode_of_decodeRI20 ⟨hop, h25, h24⟩ (fun _ _ => rfl) h
  next h25 h24 => exact encode_of_decodeRI20 ⟨hop, h25, h24⟩ (fun _ _ => rfl) h

theorem encode_of_decodeJmp (hop : opcodeField w = Opcode.jmp.bits) (h : decodeJmp w = some i) : encode i = w := by
  unfold decodeJmp at h
  split at h
  next h25 h24 => exact encode_of_decodeXRI16 ⟨hop, h25, h24⟩ (fun _ _ => rfl) h
  next h25 h24 => exact encode_of_decodeI24 ⟨hop, h25, h24⟩ (fun _ => rfl) h
  next h25 h24 => exact encode_of_decodeRRI16 ⟨hop, h25, h24⟩ (fun _ _ _ => rfl) h
  next h25 h24 => exact encode_of_decodeRI20 ⟨hop, h25, h24⟩ (fun _ _ => rfl) h

/-- The form of an opcode that a word has encodes to the word. -/
theorem encode_of_decodeForm (hop : opcodeField w = op.bits) (h : decodeForm op w = some i) : encode i = w := by
  cases op with
  | add | sub | mul | mulh | mulhu | mulfx | div | divu | mod | modu | shl | asr | lsr | rol | ror | and | or | xor =>
    exact encode_of_decodeAlu (fun _ _ _ => rfl) (fun _ _ _ => rfl) (fun _ _ _ => rfl) (fun _ _ _ => rfl) hop h
  | cmp | bchk =>
    exact encode_of_decodeTest (fun _ _ => rfl) (fun _ _ => rfl) (fun _ _ => rfl) (fun _ _ => rfl) hop h
  | ldr | ldrb | ldrsb | ldrh | ldrsh =>
    exact encode_of_decodeLoad (fun _ _ _ => rfl) (fun _ _ => rfl) (fun _ _ => rfl) hop h
  | str | strb | strh =>
    exact encode_of_decodeStore (fun _ _ _ => rfl) (fun _ _ => rfl) (fun _ _ => rfl) hop h
  | mov => exact encode_of_decodeMov hop h
  | movh => exact encode_of_decodeMovh hop h
  | not => exact encode_of_decodeNot hop h
  | b => exact encode_of_decodeB hop h
  | jmp => exact encode_of_decodeJmp hop h

end

/-- Settles O37: a word that decodes does so by the form of its opcode, and that form's encoding is the word. -/
theorem encodeOfDecode : Obligations.EncodeOfDecode := by
  intro w i h
  obtain ⟨op, j, hop, hform, hj⟩ | ⟨op, -, -, hres⟩ | ⟨-, hill⟩ := decode_cases w
  · obtain rfl : j = i := Decoded.instr.inj (hj.symm.trans h)
    exact encode_of_decodeForm hop hform
  · cases hres.symm.trans h
  · cases hill.symm.trans h

/-! ## Each format's encoder is undone by its decoder (R71 to R81) -/

/-- A word with this opcode and these mode bits is decoded by `dec`. -/
def DecodesBy (op : Opcode) (m25 m24 : Bool) (dec : Word → Option Instr) : Prop :=
  ∀ w, HasHead w op m25 m24 → decodeForm op w = dec w

/-- A word with its opcode and mode bits decodes to what their decoder reads from it. -/
theorem DecodesBy.decode_eq {op : Opcode} {m25 m24 : Bool} {dec : Word → Option Instr} {w : Word} {i : Instr}
    (hdec : DecodesBy op m25 m24 dec) (hop : opcodeField w = op.bits) (h25 : mode25 w = m25) (h24 : mode24 w = m24)
    (hi : dec w = some i) : decode w = .instr i :=
  decode_of_decodeForm hop ((hdec w ⟨hop, h25, h24⟩).trans hi)

section
variable {op : Opcode} {m25 m24 : Bool}

theorem decode_encodeRRR {mk : Reg → Reg → Reg → Instr} (hdec : DecodesBy op m25 m24 (decodeRRR mk))
    (d a b : Reg) : decode (encodeRRR op m25 m24 d a b) = .instr (mk d a b) :=
  hdec.decode_eq (by simp) (by simp) (by simp) (by simp [decodeRRR])

theorem decode_encodeRRI16 {mk : Reg → Reg → BitVec 16 → Instr} (hdec : DecodesBy op m25 m24 (decodeRRI16 mk))
    (d a : Reg) (imm : BitVec 16) : decode (encodeRRI16 op m25 m24 d a imm) = .instr (mk d a imm) :=
  hdec.decode_eq (by simp) (by simp) (by simp) (by simp [decodeRRI16])

theorem decode_encodeRxR {mk : Reg → Reg → Instr} (hdec : DecodesBy op m25 m24 (decodeRxR mk))
    (d b : Reg) : decode (encodeRxR op m25 m24 d b) = .instr (mk d b) :=
  hdec.decode_eq (by simp) (by simp) (by simp) (by simp [decodeRxR])

theorem decode_encodeRI20 {mk : Reg → BitVec 20 → Instr} (hdec : DecodesBy op m25 m24 (decodeRI20 mk))
    (d : Reg) (imm : BitVec 20) : decode (encodeRI20 op m25 m24 d imm) = .instr (mk d imm) :=
  hdec.decode_eq (by simp) (by simp) (by simp) (by simp [decodeRI20])

theorem decode_encodeRxI16 {mk : Reg → BitVec 16 → Instr} (hdec : DecodesBy op m25 m24 (decodeRxI16 mk))
    (d : Reg) (imm : BitVec 16) : decode (encodeRxI16 op m25 m24 d imm) = .instr (mk d imm) :=
  hdec.decode_eq (by simp) (by simp) (by simp) (by simp [decodeRxI16])

theorem decode_encodeXRR {mk : Reg → Reg → Instr} (hdec : DecodesBy op m25 m24 (decodeXRR mk))
    (a b : Reg) : decode (encodeXRR op m25 m24 a b) = .instr (mk a b) :=
  hdec.decode_eq (by simp) (by simp) (by simp) (by simp [decodeXRR])

theorem decode_encodeXRI16 {mk : Reg → BitVec 16 → Instr} (hdec : DecodesBy op m25 m24 (decodeXRI16 mk))
    (a : Reg) (imm : BitVec 16) : decode (encodeXRI16 op m25 m24 a imm) = .instr (mk a imm) :=
  hdec.decode_eq (by simp) (by simp) (by simp) (by simp [decodeXRI16])

theorem decode_encodeSD16 {mk : Reg → Reg → BitVec 16 → Instr} (hdec : DecodesBy op m25 m24 (decodeSD16 mk))
    (b a : Reg) (imm : BitVec 16) : decode (encodeSD16 op m25 m24 b a imm) = .instr (mk b a imm) :=
  hdec.decode_eq (by simp) (by simp) (by simp) (by simp [decodeSD16])

theorem decode_encodeS20 {mk : Reg → BitVec 20 → Instr} (hdec : DecodesBy op m25 m24 (decodeS20 mk))
    (b : Reg) (imm : BitVec 20) : decode (encodeS20 op m25 m24 b imm) = .instr (mk b imm) :=
  hdec.decode_eq (by simp) (by simp) (by simp) (by simp [decodeS20])

theorem decode_encodeI24 {mk : BitVec 24 → Instr} (hdec : DecodesBy op m25 m24 (decodeI24 mk))
    (imm : BitVec 24) : decode (encodeI24 op m25 m24 imm) = .instr (mk imm) :=
  hdec.decode_eq (by simp) (by simp) (by simp) (by simp [decodeI24])

theorem decode_encodeB {mk : BitVec 22 → Instr} {cond : BitVec 4}
    (hdec : ∀ w, condField w = cond → decodeB w = some (mk (imm22Field w))) (imm : BitVec 22) :
    decode (encodeB imm cond) = .instr (mk imm) :=
  decode_of_decodeForm (op := .b) (by simp) ((hdec _ (by simp)).trans (by simp))

end

/-! ## The format, the operand kinds and the line of an instruction (R71 to R81, R93) -/

/-- The format of an instruction's row. -/
def Instr.format : Instr → Format
  | .add .. | .adds .. | .sub .. | .subs .. | .mul .. | .muls .. | .mulh .. | .mulhs .. | .mulhu .. | .mulhus ..
  | .mulfx .. | .mulfxs .. | .div .. | .divs .. | .divu .. | .divus .. | .mod .. | .mods .. | .modu .. | .modus ..
  | .shl .. | .shls .. | .asr .. | .asrs .. | .lsr .. | .lsrs .. | .rol .. | .rols .. | .ror .. | .rors ..
  | .and .. | .ands .. | .or .. | .ors .. | .xor .. | .xors .. => .rrr
  | .addi .. | .addis .. | .subi .. | .subis .. | .muli .. | .mulis .. | .mulhi .. | .mulhis .. | .mulhui ..
  | .mulhuis .. | .mulfxi .. | .mulfxis .. | .divi .. | .divis .. | .divui .. | .divuis .. | .modi .. | .modis ..
  | .modui .. | .moduis .. | .shli .. | .shlis .. | .asri .. | .asris .. | .lsri .. | .lsris .. | .roli ..
  | .rolis .. | .rori .. | .roris .. | .andi .. | .andis .. | .ori .. | .oris .. | .xori .. | .xoris ..
  | .ldr .. | .ldrb .. | .ldrsb .. | .ldrh .. | .ldrsh .. | .jmpl .. => .rri16
  | .mov .. | .not .. | .nots .. => .rxr
  | .movi .. | .moviz .. | .movhl .. | .noti .. | .notis .. | .ldri .. | .ldrr .. | .ldrbi .. | .ldrbr ..
  | .ldrsbi .. | .ldrsbr .. | .ldrhi .. | .ldrhr .. | .ldrshi .. | .ldrshr .. | .jmpil .. => .ri20
  | .movh .. => .rxi16
  | .cmp .. | .cmps .. | .bchk .. | .bchks .. => .xrr
  | .cmpi .. | .cmpis .. | .bchki .. | .bchkis .. | .jmp .. => .xri16
  | .str .. | .strb .. | .strh .. => .sd16
  | .stri .. | .strr .. | .strbi .. | .strbr .. | .strhi .. | .strhr .. => .s20
  | .beq .. | .bne .. | .bcs .. | .bcc .. | .bmi .. | .bpl .. | .bvs .. | .bvc .. | .bhi .. | .bls .. | .bge ..
  | .blt .. | .bgt .. | .ble .. | .bal .. => .br
  | .jmpi .. => .i24

/-- Whether the immediate of an instruction is zero-extended, or used as it is (R83). -/
def Instr.zeroExtends : Instr → Bool
  | .moviz .. | .movh .. | .movhl .. | .mulhui .. | .mulhuis .. | .divui .. | .divuis .. | .modui .. | .moduis ..
  | .shli .. | .shlis .. | .asri .. | .asris .. | .lsri .. | .lsris .. | .roli .. | .rolis .. | .rori ..
  | .roris .. | .andi .. | .andis .. | .ori .. | .oris .. | .xori .. | .xoris .. | .bchki .. | .bchkis ..
  | .noti .. | .notis .. | .ldri .. | .ldrbi .. | .ldrsbi .. | .ldrhi .. | .ldrshi .. | .stri .. | .strbi ..
  | .strhi .. | .jmp .. | .jmpi .. | .jmpl .. | .jmpil .. => true
  | _ => false

/-- How a field of `n` bits is written: as an unsigned number if the instruction zero-extends it, else as a signed
one (R93). -/
def fieldValue {n : Nat} (zeroExtends : Bool) (v : BitVec n) : Int :=
  if zeroExtends then v.toNat else v.toInt

/-- What `i` is to its row and its assembler: mnemonic, format, extension of its immediate, and written operands. -/
structure HasLine (i : Instr) (m : String) (f : Format) (z : Bool) (ops : List Operand) : Prop where
  asm_eq : i.asm = ⟨m, ops⟩
  format_eq : i.format = f
  zeroExtends_eq : i.zeroExtends = z

/-- The format an instruction is encoded in: the constructor `mk` it is made by, whose instructions differ in their
operands only, is encoded with one opcode and one pair of mode bits, and a word that has those is decoded by the
format's decoder for `mk`. -/
inductive EncodingForm : Instr → Prop
  | rrr (mk : Reg → Reg → Reg → Instr) (op : Opcode) (m25 m24 : Bool) (m : String)
      (hencode : ∀ d a b, encode (mk d a b) = encodeRRR op m25 m24 d a b)
      (hdecode : DecodesBy op m25 m24 (decodeRRR mk))
      (hline : ∀ d a b, HasLine (mk d a b) m .rrr false [.reg d.toNat, .reg a.toNat, .reg b.toNat])
      (d a b : Reg) : EncodingForm (mk d a b)
  | rri16 (z : Bool) (mk : Reg → Reg → BitVec 16 → Instr) (op : Opcode) (m25 m24 : Bool) (m : String)
      (hencode : ∀ d a imm, encode (mk d a imm) = encodeRRI16 op m25 m24 d a imm)
      (hdecode : DecodesBy op m25 m24 (decodeRRI16 mk))
      (hline : ∀ d a imm, HasLine (mk d a imm) m .rri16 z [.reg d.toNat, .reg a.toNat, .imm (fieldValue z imm)])
      (d a : Reg) (imm : BitVec 16) : EncodingForm (mk d a imm)
  | rxr (mk : Reg → Reg → Instr) (op : Opcode) (m25 m24 : Bool) (m : String)
      (hencode : ∀ d b, encode (mk d b) = encodeRxR op m25 m24 d b)
      (hdecode : DecodesBy op m25 m24 (decodeRxR mk))
      (hline : ∀ d b, HasLine (mk d b) m .rxr false [.reg d.toNat, .reg b.toNat])
      (d b : Reg) : EncodingForm (mk d b)
  | ri20 (z : Bool) (mk : Reg → BitVec 20 → Instr) (op : Opcode) (m25 m24 : Bool) (m : String)
      (hencode : ∀ d imm, encode (mk d imm) = encodeRI20 op m25 m24 d imm)
      (hdecode : DecodesBy op m25 m24 (decodeRI20 mk))
      (hline : ∀ d imm, HasLine (mk d imm) m .ri20 z [.reg d.toNat, .imm (fieldValue z imm)])
      (d : Reg) (imm : BitVec 20) : EncodingForm (mk d imm)
  | rxi16 (z : Bool) (mk : Reg → BitVec 16 → Instr) (op : Opcode) (m25 m24 : Bool) (m : String)
      (hencode : ∀ d imm, encode (mk d imm) = encodeRxI16 op m25 m24 d imm)
      (hdecode : DecodesBy op m25 m24 (decodeRxI16 mk))
      (hline : ∀ d imm, HasLine (mk d imm) m .rxi16 z [.reg d.toNat, .imm (fieldValue z imm)])
      (d : Reg) (imm : BitVec 16) : EncodingForm (mk d imm)
  | xrr (mk : Reg → Reg → Instr) (op : Opcode) (m25 m24 : Bool) (m : String)
      (hencode : ∀ a b, encode (mk a b) = encodeXRR op m25 m24 a b)
      (hdecode : DecodesBy op m25 m24 (decodeXRR mk))
      (hline : ∀ a b, HasLine (mk a b) m .xrr false [.reg a.toNat, .reg b.toNat])
      (a b : Reg) : EncodingForm (mk a b)
  | xri16 (z : Bool) (mk : Reg → BitVec 16 → Instr) (op : Opcode) (m25 m24 : Bool) (m : String)
      (hencode : ∀ a imm, encode (mk a imm) = encodeXRI16 op m25 m24 a imm)
      (hdecode : DecodesBy op m25 m24 (decodeXRI16 mk))
      (hline : ∀ a imm, HasLine (mk a imm) m .xri16 z [.reg a.toNat, .imm (fieldValue z imm)])
      (a : Reg) (imm : BitVec 16) : EncodingForm (mk a imm)
  | sd16 (z : Bool) (mk : Reg → Reg → BitVec 16 → Instr) (op : Opcode) (m25 m24 : Bool) (m : String)
      (hencode : ∀ b a imm, encode (mk b a imm) = encodeSD16 op m25 m24 b a imm)
      (hdecode : DecodesBy op m25 m24 (decodeSD16 mk))
      (hline : ∀ b a imm,
        HasLine (mk b a imm) m .sd16 z [.reg b.toNat, .reg a.toNat, .imm (fieldValue z imm)])
      (b a : Reg) (imm : BitVec 16) : EncodingForm (mk b a imm)
  | s20 (z : Bool) (mk : Reg → BitVec 20 → Instr) (op : Opcode) (m25 m24 : Bool) (m : String)
      (hencode : ∀ b imm, encode (mk b imm) = encodeS20 op m25 m24 b imm)
      (hdecode : DecodesBy op m25 m24 (decodeS20 mk))
      (hline : ∀ b imm, HasLine (mk b imm) m .s20 z [.reg b.toNat, .imm (fieldValue z imm)])
      (b : Reg) (imm : BitVec 20) : EncodingForm (mk b imm)
  | br (mk : BitVec 22 → Instr) (cond : BitVec 4) (m : String)
      (hencode : ∀ imm, encode (mk imm) = encodeB imm cond)
      (hdecode : ∀ w, condField w = cond → decodeB w = some (mk (imm22Field w)))
      (hline : ∀ imm, HasLine (mk imm) m .br false [.imm (fieldValue false imm)])
      (hbranch : ∀ imm, Machine.branchCond (mk imm) ≠ none)
      (imm : BitVec 22) : EncodingForm (mk imm)
  | i24 (z : Bool) (mk : BitVec 24 → Instr) (op : Opcode) (m25 m24 : Bool) (m : String)
      (hencode : ∀ imm, encode (mk imm) = encodeI24 op m25 m24 imm)
      (hdecode : DecodesBy op m25 m24 (decodeI24 mk))
      (hline : ∀ imm, HasLine (mk imm) m .i24 z [.imm (fieldValue z imm)])
      (imm : BitVec 24) : EncodingForm (mk imm)

/-- Every instruction has its form. -/
theorem encodingForm (i : Instr) : EncodingForm i := by
  cases i with
  | add | adds | sub | subs | mul | muls | mulh | mulhs | mulhu | mulhus | mulfx | mulfxs | div | divs | divu | divus
  | mod | mods | modu | modus | shl | shls | asr | asrs | lsr | lsrs | rol | rols | ror | rors | and | ands | or | ors
  | xor | xors =>
    exact .rrr _ _ _ _ _ (fun _ _ _ => rfl) (fun _ h => by rw [decodeForm, decodeAlu, h.mode25, h.mode24])
      (fun _ _ _ => ⟨rfl, rfl, rfl⟩) _ _ _
  | addi | addis | subi | subis | muli | mulis | mulhi | mulhis | mulfxi | mulfxis | divi | divis | modi | modis =>
    exact .rri16 false _ _ _ _ _ (fun _ _ _ => rfl)
      (fun _ h => by rw [decodeForm, decodeAlu, h.mode25, h.mode24]) (fun _ _ _ => ⟨rfl, rfl, rfl⟩) _ _ _
  | mulhui | mulhuis | divui | divuis | modui | moduis | shli | shlis | asri | asris | lsri | lsris | roli | rolis
  | rori | roris | andi | andis | ori | oris | xori | xoris =>
    exact .rri16 true _ _ _ _ _ (fun _ _ _ => rfl)
      (fun _ h => by rw [decodeForm, decodeAlu, h.mode25, h.mode24]) (fun _ _ _ => ⟨rfl, rfl, rfl⟩) _ _ _
  | ldr | ldrb | ldrsb | ldrh | ldrsh =>
    exact .rri16 false _ _ _ _ _ (fun _ _ _ => rfl)
      (fun _ h => by rw [decodeForm, decodeLoad, h.mode25, h.mode24]) (fun _ _ _ => ⟨rfl, rfl, rfl⟩) _ _ _
  | ldri | ldrbi | ldrsbi | ldrhi | ldrshi =>
    exact .ri20 true _ _ _ _ _ (fun _ _ => rfl)
      (fun _ h => by rw [decodeForm, decodeLoad, h.mode25, h.mode24]) (fun _ _ => ⟨rfl, rfl, rfl⟩) _ _
  | ldrr | ldrbr | ldrsbr | ldrhr | ldrshr =>
    exact .ri20 false _ _ _ _ _ (fun _ _ => rfl)
      (fun _ h => by rw [decodeForm, decodeLoad, h.mode25, h.mode24]) (fun _ _ => ⟨rfl, rfl, rfl⟩) _ _
  | str | strb | strh =>
    exact .sd16 false _ _ _ _ _ (fun _ _ _ => rfl)
      (fun _ h => by rw [decodeForm, decodeStore, h.mode25, h.mode24]) (fun _ _ _ => ⟨rfl, rfl, rfl⟩) _ _ _
  | stri | strbi | strhi =>
    exact .s20 true _ _ _ _ _ (fun _ _ => rfl)
      (fun _ h => by rw [decodeForm, decodeStore, h.mode25, h.mode24]) (fun _ _ => ⟨rfl, rfl, rfl⟩) _ _
  | strr | strbr | strhr =>
    exact .s20 false _ _ _ _ _ (fun _ _ => rfl)
      (fun _ h => by rw [decodeForm, decodeStore, h.mode25, h.mode24]) (fun _ _ => ⟨rfl, rfl, rfl⟩) _ _
  | cmp | cmps | bchk | bchks =>
    exact .xrr _ _ _ _ _ (fun _ _ => rfl) (fun _ h => by rw [decodeForm, decodeTest, h.mode25, h.mode24])
      (fun _ _ => ⟨rfl, rfl, rfl⟩) _ _
  | cmpi | cmpis =>
    exact .xri16 false _ _ _ _ _ (fun _ _ => rfl)
      (fun _ h => by rw [decodeForm, decodeTest, h.mode25, h.mode24]) (fun _ _ => ⟨rfl, rfl, rfl⟩) _ _
  | bchki | bchkis =>
    exact .xri16 true _ _ _ _ _ (fun _ _ => rfl)
      (fun _ h => by rw [decodeForm, decodeTest, h.mode25, h.mode24]) (fun _ _ => ⟨rfl, rfl, rfl⟩) _ _
  | mov =>
    exact .rxr _ _ _ _ _ (fun _ _ => rfl) (fun _ h => by rw [decodeForm, decodeMov, h.mode25, h.mode24])
      (fun _ _ => ⟨rfl, rfl, rfl⟩) _ _
  | movi =>
    exact .ri20 false _ _ _ _ _ (fun _ _ => rfl)
      (fun _ h => by rw [decodeForm, decodeMov, h.mode25, h.mode24]) (fun _ _ => ⟨rfl, rfl, rfl⟩) _ _
  | moviz =>
    exact .ri20 true _ _ _ _ _ (fun _ _ => rfl)
      (fun _ h => by rw [decodeForm, decodeMov, h.mode25, h.mode24]) (fun _ _ => ⟨rfl, rfl, rfl⟩) _ _
  | movh =>
    exact .rxi16 true _ _ _ _ _ (fun _ _ => rfl) (fun _ h => by rw [decodeForm, decodeMovh, h.mode25, h.mode24])
      (fun _ _ => ⟨rfl, rfl, rfl⟩) _ _
  | movhl =>
    exact .ri20 true _ _ _ _ _ (fun _ _ => rfl)
      (fun _ h => by rw [decodeForm, decodeMovh, h.mode25, h.mode24]) (fun _ _ => ⟨rfl, rfl, rfl⟩) _ _
  | not | nots =>
    exact .rxr _ _ _ _ _ (fun _ _ => rfl) (fun _ h => by rw [decodeForm, decodeNot, h.mode25, h.mode24])
      (fun _ _ => ⟨rfl, rfl, rfl⟩) _ _
  | noti | notis =>
    exact .ri20 true _ _ _ _ _ (fun _ _ => rfl)
      (fun _ h => by rw [decodeForm, decodeNot, h.mode25, h.mode24]) (fun _ _ => ⟨rfl, rfl, rfl⟩) _ _
  | jmp =>
    exact .xri16 true _ _ _ _ _ (fun _ _ => rfl)
      (fun _ h => by rw [decodeForm, decodeJmp, h.mode25, h.mode24]) (fun _ _ => ⟨rfl, rfl, rfl⟩) _ _
  | jmpi =>
    exact .i24 true _ _ _ _ _ (fun _ => rfl) (fun _ h => by rw [decodeForm, decodeJmp, h.mode25, h.mode24])
      (fun _ => ⟨rfl, rfl, rfl⟩) _
  | jmpl =>
    exact .rri16 true _ _ _ _ _ (fun _ _ _ => rfl)
      (fun _ h => by rw [decodeForm, decodeJmp, h.mode25, h.mode24]) (fun _ _ _ => ⟨rfl, rfl, rfl⟩) _ _ _
  | jmpil =>
    exact .ri20 true _ _ _ _ _ (fun _ _ => rfl)
      (fun _ h => by rw [decodeForm, decodeJmp, h.mode25, h.mode24]) (fun _ _ => ⟨rfl, rfl, rfl⟩) _ _
  | beq | bne | bcs | bcc | bmi | bpl | bvs | bvc | bhi | bls | bge | blt | bgt | ble | bal =>
    exact .br _ _ _ (fun _ => rfl) (fun _ h => by rw [decodeB, h]; rfl) (fun _ => ⟨rfl, rfl, rfl⟩)
      (fun _ => by exact Option.some_ne_none _) _

/-- Settles O36: the word of an instruction has its opcode and mode bits, so its format's decoder reads its operands
back from it. -/
theorem decodeOfEncode : Obligations.DecodeOfEncode := by
  intro i
  cases encodingForm i with
  | rrr mk op m25 m24 m hencode hdecode => rw [hencode, decode_encodeRRR hdecode]
  | rri16 z mk op m25 m24 m hencode hdecode => rw [hencode, decode_encodeRRI16 hdecode]
  | rxr mk op m25 m24 m hencode hdecode => rw [hencode, decode_encodeRxR hdecode]
  | ri20 z mk op m25 m24 m hencode hdecode => rw [hencode, decode_encodeRI20 hdecode]
  | rxi16 z mk op m25 m24 m hencode hdecode => rw [hencode, decode_encodeRxI16 hdecode]
  | xrr mk op m25 m24 m hencode hdecode => rw [hencode, decode_encodeXRR hdecode]
  | xri16 z mk op m25 m24 m hencode hdecode => rw [hencode, decode_encodeXRI16 hdecode]
  | sd16 z mk op m25 m24 m hencode hdecode => rw [hencode, decode_encodeSD16 hdecode]
  | s20 z mk op m25 m24 m hencode hdecode => rw [hencode, decode_encodeS20 hdecode]
  | br mk cond m hencode hdecode => rw [hencode, decode_encodeB hdecode]
  | i24 z mk op m25 m24 m hencode hdecode => rw [hencode, decode_encodeI24 hdecode]

end Sys2Proof

/-!
PROOFS. The opcode table (spec/30_encoding.md R92). What its 132 rows show is looked at once, row by row; from it, and
from the bits that each format fixes, follows which words a row accepts and that no two rows accept the same. Settles
O38.
-/

namespace Sys2Proof

/-! ## The rows of the opcode table (R92) -/

/-- The bits that a format fixes: the opcode, the mode bits, and its reserved bits (R71 to R81, R87). -/
def Format.mask : Format → Word
  | .rrr => 0xFF000FFF#32
  | .rri16 | .ri20 | .sd16 | .s20 | .i24 => 0xFF000000#32
  | .rxr => 0xFF0F0FFF#32
  | .rxi16 => 0xFF0F0000#32
  | .xrr => 0xFFF00FFF#32
  | .xri16 => 0xFFF00000#32
  | .br => 0xFC00000F#32

/-- An immediate of `n` bits as an operand, by its extension (R83). -/
def immediateKind (n : Nat) (zeroExtends : Bool) : OperandKind :=
  if zeroExtends then .unsigned n else .signed n

/-- The operands of a format in the order in which they are written (R93). -/
def Format.kinds (zeroExtends : Bool) : Format → List OperandKind
  | .rrr => [.reg, .reg, .reg]
  | .rri16 | .sd16 => [.reg, .reg, immediateKind 16 zeroExtends]
  | .rxr | .xrr => [.reg, .reg]
  | .ri20 | .s20 => [.reg, immediateKind 20 zeroExtends]
  | .rxi16 | .xri16 => [.reg, immediateKind 16 zeroExtends]
  | .br => [.offset 22]
  | .i24 => [immediateKind 24 zeroExtends]

/-- The rows of the opcode table, each with the assembler's signature of its mnemonic. -/
def tableEntries : List (OpcodeRow × String × List OperandKind) := opcodeRows.zip AsmLine.signatures

/-! What the 132 entries themselves show, each looked at once. -/

theorem length_opcodeRows : opcodeRows.length = AsmLine.signatures.length := by
  simp only [opcodeRows, AsmLine.signatures, List.length_append]
  rfl

theorem tableEntries_mnemonics : tableEntries.all (fun t => t.1.mnemonic == t.2.1) = true := by decide

/-- The row's word with all operands 0 is an instruction of the entry. -/
theorem tableEntries_decode : tableEntries.all (fun t =>
    (decode t.1.value).toOption.map (fun i => (i.mnemonic, i.format, i.format.kinds i.zeroExtends)) ==
      some (t.1.mnemonic, t.1.format, t.2.2)) = true := by decide

theorem opcodeRows_masks :
    opcodeRows.all (fun r => r.mask == r.format.mask && r.value &&& r.format.mask == r.value) = true := by decide

/-- The assembler refuses and respells no mnemonic of the table (R94, R96, D27). -/
theorem opcodeRows_mnemonics : opcodeRows.all (fun r => !("B" :: AsmLine.systemMnemonics).contains r.mnemonic &&
    AsmLine.canonicalMnemonic r.mnemonic == r.mnemonic) = true := by decide

/-! The same, as facts about an entry. -/

theorem map_fst_tableEntries : tableEntries.map Prod.fst = opcodeRows :=
  List.map_fst_zip length_opcodeRows.le

theorem map_snd_tableEntries : tableEntries.map Prod.snd = AsmLine.signatures :=
  List.map_snd_zip length_opcodeRows.ge

/-- Every row has its entry. -/
theorem exists_entry_of_mem {row : OpcodeRow} (h : row ∈ opcodeRows) :
    ∃ ks, (row, row.mnemonic, ks) ∈ tableEntries := by
  rw [← map_fst_tableEntries, List.mem_map] at h
  obtain ⟨⟨_, m, ks⟩, ht, rfl⟩ := h
  have hm := List.all_eq_true.mp tableEntries_mnemonics _ ht
  exact ⟨ks, (beq_iff_eq.mp hm) ▸ ht⟩

theorem mem_opcodeRows_of_entry {row : OpcodeRow} {m : String} {ks : List OperandKind}
    (h : (row, m, ks) ∈ tableEntries) : row ∈ opcodeRows :=
  map_fst_tableEntries ▸ List.mem_map_of_mem (f := Prod.fst) h

theorem mask_eq_of_mem {row : OpcodeRow} (h : row ∈ opcodeRows) : row.mask = row.format.mask := by
  have hmasks := List.all_eq_true.mp opcodeRows_masks _ h
  rw [Bool.and_eq_true, beq_iff_eq] at hmasks
  exact hmasks.1

theorem value_and_mask_of_mem {row : OpcodeRow} (h : row ∈ opcodeRows) :
    row.value &&& row.format.mask = row.value := by
  have hmasks := List.all_eq_true.mp opcodeRows_masks _ h
  rw [Bool.and_eq_true, beq_iff_eq, beq_iff_eq] at hmasks
  exact hmasks.2

/-- A row accepts the words that agree with its value on the bits its format fixes. -/
theorem accepts_iff {row : OpcodeRow} (h : row ∈ opcodeRows) (w : Word) :
    row.accepts w = true ↔ w &&& row.format.mask = row.value := by
  rw [OpcodeRow.accepts, beq_iff_eq, mask_eq_of_mem h]

/-- The rows and the signatures are looked up together. -/
theorem rowOf_and_signatures_find (m : String) :
    (rowOf m = none ∧ AsmLine.signatures.find? (fun s => s.1 == m) = none) ∨
    ∃ row ks, (row, m, ks) ∈ tableEntries ∧ rowOf m = some row ∧
      AsmLine.signatures.find? (fun s => s.1 == m) = some (m, ks) := by
  have hrows : rowOf m = (tableEntries.find? fun t => t.1.mnemonic == m).map Prod.fst := by
    rw [rowOf, ← map_fst_tableEntries, List.find?_map]
    rfl
  have hsame : ∀ t ∈ tableEntries, (t.1.mnemonic == m) = (t.2.1 == m) := fun t ht =>
    congrArg (· == m) (beq_iff_eq.mp (List.all_eq_true.mp tableEntries_mnemonics t ht))
  have hsigs : AsmLine.signatures.find? (fun s => s.1 == m) =
      (tableEntries.find? fun t => t.1.mnemonic == m).map Prod.snd := by
    rw [← map_snd_tableEntries, List.find?_map, List.find?_congr hsame]
    rfl
  cases hfind : tableEntries.find? fun t => t.1.mnemonic == m with
  | none => exact .inl ⟨by rw [hrows, hfind]; rfl, by rw [hsigs, hfind]; rfl⟩
  | some t =>
    obtain ⟨row, m', ks⟩ := t
    have ht := List.mem_of_find?_eq_some hfind
    have hm : row.mnemonic = m := by simpa using List.find?_some hfind
    obtain rfl : m' = m := (beq_iff_eq.mp (List.all_eq_true.mp tableEntries_mnemonics _ ht)).symm.trans hm
    exact .inr ⟨row, ks, ht, by rw [hrows, hfind]; rfl, by rw [hsigs, hfind]; rfl⟩

/-! ## The words of a row (R92) -/

/-- Two instructions of one row. -/
structure SameRow (i j : Instr) : Prop where
  mnemonic_eq : j.mnemonic = i.mnemonic
  format_eq : j.format = i.format
  zeroExtends_eq : j.zeroExtends = i.zeroExtends

theorem HasLine.mnemonic_eq {i : Instr} {m : String} {f : Format} {z : Bool} {ops : List Operand}
    (h : HasLine i m f z ops) : i.mnemonic = m := by
  rw [Instr.mnemonic, h.asm_eq]

theorem HasLine.sameRow {i j : Instr} {m : String} {f : Format} {z : Bool} {ops ops' : List Operand}
    (hi : HasLine i m f z ops) (hj : HasLine j m f z ops') : SameRow i j :=
  ⟨hj.mnemonic_eq.trans hi.mnemonic_eq.symm, hj.format_eq.trans hi.format_eq.symm,
    hj.zeroExtends_eq.trans hi.zeroExtends_eq.symm⟩

/-- A word that agrees with an instruction's on the bits the format fixes is the word of an instruction of the same
row: its other bits are that instruction's operands. -/
theorem exists_encode_of_and_mask_eq (i : Instr) (w : Word) (h : w &&& i.format.mask = encode i &&& i.format.mask) :
    ∃ j, encode j = w ∧ SameRow i j := by
  cases encodingForm i with
  | rrr mk op m25 m24 m hencode _ hline d a b =>
    rw [(hline d a b).format_eq, hencode] at h
    refine ⟨mk (fieldD w) (fieldA w) (fieldB w), ?_, (hline d a b).sameRow (hline ..)⟩
    rw [hencode, encodeRRR_fields (h.trans (encodeRRR_and ..))]
  | rri16 z mk op m25 m24 m hencode _ hline d a imm =>
    rw [(hline d a imm).format_eq, hencode] at h
    refine ⟨mk (fieldD w) (fieldA w) (imm16Field w), ?_, (hline d a imm).sameRow (hline ..)⟩
    rw [hencode, encodeRRI16_fields (h.trans (encodeRRI16_and ..))]
  | rxr mk op m25 m24 m hencode _ hline d b =>
    rw [(hline d b).format_eq, hencode] at h
    refine ⟨mk (fieldD w) (fieldB w), ?_, (hline d b).sameRow (hline ..)⟩
    rw [hencode, encodeRxR_fields (h.trans (encodeRxR_and ..))]
  | ri20 z mk op m25 m24 m hencode _ hline d imm =>
    rw [(hline d imm).format_eq, hencode] at h
    refine ⟨mk (fieldD w) (imm20Field w), ?_, (hline d imm).sameRow (hline ..)⟩
    rw [hencode, encodeRI20_fields (h.trans (encodeRI20_and ..))]
  | rxi16 z mk op m25 m24 m hencode _ hline d imm =>
    rw [(hline d imm).format_eq, hencode] at h
    refine ⟨mk (fieldD w) (imm16Field w), ?_, (hline d imm).sameRow (hline ..)⟩
    rw [hencode, encodeRxI16_fields (h.trans (encodeRxI16_and ..))]
  | xrr mk op m25 m24 m hencode _ hline a b =>
    rw [(hline a b).format_eq, hencode] at h
    refine ⟨mk (fieldA w) (fieldB w), ?_, (hline a b).sameRow (hline ..)⟩
    rw [hencode, encodeXRR_fields (h.trans (encodeXRR_and ..))]
  | xri16 z mk op m25 m24 m hencode _ hline a imm =>
    rw [(hline a imm).format_eq, hencode] at h
    refine ⟨mk (fieldA w) (imm16Field w), ?_, (hline a imm).sameRow (hline ..)⟩
    rw [hencode, encodeXRI16_fields (h.trans (encodeXRI16_and ..))]
  | sd16 z mk op m25 m24 m hencode _ hline b a imm =>
    rw [(hline b a imm).format_eq, hencode] at h
    refine ⟨mk (fieldB w) (fieldA w) (storeImm16 w), ?_, (hline b a imm).sameRow (hline ..)⟩
    rw [hencode, encodeSD16_fields (h.trans (encodeSD16_and ..))]
  | s20 z mk op m25 m24 m hencode _ hline b imm =>
    rw [(hline b imm).format_eq, hencode] at h
    refine ⟨mk (fieldB w) (storeImm20 w), ?_, (hline b imm).sameRow (hline ..)⟩
    rw [hencode, encodeS20_fields (h.trans (encodeS20_and ..))]
  | br mk cond m hencode _ hline _ imm =>
    rw [(hline imm).format_eq, hencode] at h
    refine ⟨mk (imm22Field w), ?_, (hline imm).sameRow (hline _)⟩
    rw [hencode, encodeB_fields (h.trans (encodeB_and ..))]
  | i24 z mk op m25 m24 m hencode _ hline imm =>
    rw [(hline imm).format_eq, hencode] at h
    refine ⟨mk (imm24Field w), ?_, (hline imm).sameRow (hline _)⟩
    rw [hencode, encodeI24_fields (h.trans (encodeI24_and ..))]

/-- An instruction of a table entry: the row's mnemonic and format, and the signature's operand kinds. -/
structure IsOfEntry (i : Instr) (row : OpcodeRow) (ks : List OperandKind) : Prop where
  mnemonic_eq : i.mnemonic = row.mnemonic
  format_eq : i.format = row.format
  kinds_eq : i.format.kinds i.zeroExtends = ks

/-- The row's value is the word of an instruction of its entry. -/
theorem exists_encode_eq_value {row : OpcodeRow} {m : String} {ks : List OperandKind}
    (h : (row, m, ks) ∈ tableEntries) : ∃ i, encode i = row.value ∧ IsOfEntry i row ks := by
  have hdec := beq_iff_eq.mp (List.all_eq_true.mp tableEntries_decode _ h)
  cases hi : decode row.value with
  | instr i =>
    simp only [hi, Decoded.toOption, Option.map_some, Option.some.injEq, Prod.mk.injEq] at hdec
    obtain ⟨hm, hf, hk⟩ := hdec
    exact ⟨i, encodeOfDecode _ _ hi, hm, hf, hk⟩
  | illegalInstruction => simp [hi, Decoded.toOption] at hdec
  | reservedEncoding => simp [hi, Decoded.toOption] at hdec

/-- A word that a row accepts is the word of an instruction of its entry. -/
theorem exists_encode_of_accepts {row : OpcodeRow} {m : String} {ks : List OperandKind}
    (h : (row, m, ks) ∈ tableEntries) {w : Word} (hw : row.accepts w = true) :
    ∃ i, encode i = w ∧ IsOfEntry i row ks := by
  have hrow := mem_opcodeRows_of_entry h
  obtain ⟨i, hi, hentry⟩ := exists_encode_eq_value h
  obtain ⟨j, hj, hsame⟩ := exists_encode_of_and_mask_eq i w (by
    rw [hi, hentry.format_eq, value_and_mask_of_mem hrow]
    exact (accepts_iff hrow w).mp hw)
  exact ⟨j, hj, hsame.mnemonic_eq.trans hentry.mnemonic_eq, hsame.format_eq.trans hentry.format_eq,
    by rw [hsame.format_eq, hsame.zeroExtends_eq, hentry.kinds_eq]⟩

/-- Encoding loses nothing. -/
theorem encode_injective : Function.Injective encode := fun i j h =>
  Decoded.instr.inj ((decodeOfEncode i).symm.trans ((congrArg decode h).trans (decodeOfEncode j)))

namespace Laws.RowMatch

/-- The family, for every instruction. -/
theorem statement (i : Instr) : Statement i := by
  cases i
  exacts [
    mov .., movi .., moviz .., add .., adds .., addi .., addis .., sub .., subs .., subi .., subis .., movh ..,
    movhl .., cmp .., cmps .., cmpi .., cmpis .., mul .., muls .., muli .., mulis .., mulh .., mulhs ..,
    mulhi .., mulhis .., mulhu .., mulhus .., mulhui .., mulhuis .., mulfx .., mulfxs .., mulfxi .., mulfxis ..,
    div .., divs .., divi .., divis .., divu .., divus .., divui .., divuis .., mod .., mods .., modi ..,
    modis .., modu .., modus .., modui .., moduis .., shl .., shls .., shli .., shlis .., asr .., asrs ..,
    asri .., asris .., lsr .., lsrs .., lsri .., lsris .., rol .., rols .., roli .., rolis .., ror .., rors ..,
    rori .., roris .., and .., ands .., andi .., andis .., or .., ors .., ori .., oris .., xor .., xors ..,
    xori .., xoris .., bchk .., bchks .., bchki .., bchkis .., not .., nots .., noti .., notis .., ldr ..,
    ldri .., ldrr .., ldrb .., ldrbi .., ldrbr .., ldrsb .., ldrsbi .., ldrsbr .., ldrh .., ldrhi .., ldrhr ..,
    ldrsh .., ldrshi .., ldrshr .., str .., stri .., strr .., strb .., strbi .., strbr .., strh .., strhi ..,
    strhr .., beq .., bne .., bcs .., bcc .., bmi .., bpl .., bvs .., bvc .., bhi .., bls .., bge .., blt ..,
    bgt .., ble .., bal .., jmp .., jmpi .., jmpl .., jmpil ..]

end Laws.RowMatch

theorem rowOf_eq_some {m : String} {row : OpcodeRow} (h : rowOf m = some row) :
    row ∈ opcodeRows ∧ row.mnemonic = m :=
  ⟨List.mem_of_find?_eq_some h, by simpa using List.find?_some h⟩

/-- A word that a row accepts decodes to an instruction of the row's mnemonic. -/
theorem decode_of_accepts {row : OpcodeRow} (hrow : row ∈ opcodeRows) {w : Word} (hw : row.accepts w = true) :
    ∃ i, decode w = .instr i ∧ i.mnemonic = row.mnemonic := by
  obtain ⟨ks, hentry⟩ := exists_entry_of_mem hrow
  obtain ⟨i, rfl, hi⟩ := exists_encode_of_accepts hentry hw
  exact ⟨i, decodeOfEncode i, hi.mnemonic_eq⟩

/-- A word that decodes to no instruction is accepted by no row. -/
theorem filter_accepts_eq_nil {w : Word} (h : ∀ i, decode w ≠ .instr i) :
    opcodeRows.filter (fun r => r.accepts w) = [] :=
  List.filter_eq_nil_iff.mpr fun _ hrow hw =>
    have ⟨i, hi, _⟩ := decode_of_accepts hrow hw
    h i hi

/-- Rows that accept one word are one row: the word's instruction fixes mnemonic and format, the format the mask, and
the word under the mask the value. -/
theorem eq_of_accepts {r s : OpcodeRow} (hr : r ∈ opcodeRows) (hs : s ∈ opcodeRows) {w : Word}
    (hrw : r.accepts w = true) (hsw : s.accepts w = true) : r = s := by
  obtain ⟨ks, hrentry⟩ := exists_entry_of_mem hr
  obtain ⟨ls, hsentry⟩ := exists_entry_of_mem hs
  obtain ⟨i, hi, hri⟩ := exists_encode_of_accepts hrentry hrw
  obtain ⟨j, hj, hsj⟩ := exists_encode_of_accepts hsentry hsw
  obtain rfl : i = j := encode_injective (hi.trans hj.symm)
  have hmnemonic : r.mnemonic = s.mnemonic := hri.mnemonic_eq.symm.trans hsj.mnemonic_eq
  have hformat : r.format = s.format := hri.format_eq.symm.trans hsj.format_eq
  have hmask : r.mask = s.mask := by rw [mask_eq_of_mem hr, mask_eq_of_mem hs, hformat]
  have hvalue : r.value = s.value := by
    rw [← (accepts_iff hr w).mp hrw, ← (accepts_iff hs w).mp hsw, hformat]
  cases r
  cases s
  exact OpcodeRow.mk.injEq .. ▸ ⟨hmnemonic, hformat, hmask, hvalue⟩

/-- Whether the numbers of a list are all different. -/
def allDifferent : List Nat → Bool
  | [] => true
  | n :: ns => ns.all (fun k => !(n == k)) && allDifferent ns

theorem nodup_of_allDifferent : ∀ {ns : List Nat}, allDifferent ns = true → ns.Nodup
  | [], _ => .nil
  | n :: ns, h => by
    simp only [allDifferent, Bool.and_eq_true, List.all_eq_true, Bool.not_eq_true', beq_eq_false_iff_ne] at h
    obtain ⟨hn, hns⟩ := h
    exact List.Pairwise.cons hn (nodup_of_allDifferent hns)

theorem nodup_opcodeRows : opcodeRows.Nodup :=
  .of_map (fun r => r.value.toNat) (nodup_of_allDifferent (by decide))

/-- A row that accepts a word is the only one (R92). -/
theorem filter_accepts_eq_singleton {row : OpcodeRow} (hrow : row ∈ opcodeRows) {w : Word}
    (hw : row.accepts w = true) : opcodeRows.filter (fun r => r.accepts w) = [row] := by
  have hmem : ∀ r, r ∈ opcodeRows.filter (fun r => r.accepts w) ↔ r ∈ [row] := fun r => by
    rw [List.mem_filter, List.mem_singleton]
    exact ⟨fun ⟨hr, hrw⟩ => eq_of_accepts hr hrow hrw hw, fun h => h ▸ ⟨hrow, hw⟩⟩
  have hnodup := nodup_opcodeRows.filter fun r => r.accepts w
  exact List.perm_singleton.mp ((List.perm_ext_iff_of_nodup hnodup (List.nodup_singleton row)).mpr hmem)

/-- Settles O38: a word that decodes is its instruction's, which that instruction's row alone accepts; a word that a
row accepts decodes; and the two other answers are told apart by the opcode. -/
theorem decoderAgreesWithOpcodeTable : Obligations.DecoderAgreesWithOpcodeTable := by
  intro w
  obtain ⟨op, i, hop, hform, hdec⟩ | ⟨op, hop, -, hdec⟩ | ⟨hop, hdec⟩ := decode_cases w
  · obtain ⟨row, hrow, hw⟩ := Laws.RowMatch.statement i
    obtain ⟨hmem, hmnemonic⟩ := rowOf_eq_some hrow
    rw [encodeOfDecode w i hdec] at hw
    rw [hdec]
    exact ⟨row, filter_accepts_eq_singleton hmem hw, hmnemonic⟩
  · have hnil := filter_accepts_eq_nil (w := w) (by simp [hdec])
    rw [hdec]
    exact ⟨hnil, op, hop.symm⟩
  · have hnil := filter_accepts_eq_nil (w := w) (by simp [hdec])
    rw [hdec]
    exact ⟨hnil, fun op h => hop op h.symm⟩

end Sys2Proof

/-!
PROOFS. The assembler (spec/30_encoding.md R93 to R98): the checks of an operand and of a line, and the word of a line
from its row and its operand fields. Settles O44, O41, O42 and O43.
-/

namespace Sys2Proof

/-! ## The checks of an operand (R83, R98, R321) -/

theorem signedFits_iff (n : Nat) (v : Int) :
    OperandKind.signedFits n v = true ↔ -(2 ^ (n - 1) : Int) ≤ v ∧ v < 2 ^ n := by
  simp [OperandKind.signedFits]

theorem unsignedFits_iff (n : Nat) (v : Int) : OperandKind.unsignedFits n v = true ↔ 0 ≤ v ∧ v < 2 ^ n := by
  simp [OperandKind.unsignedFits]

/-- A check that refuses in one way: what it accepts, and how it refuses. -/
theorem ite_refusal {p : Prop} [Decidable p] {e : AsmError} :
    ((if p then none else some e) = none ↔ p) ∧ (¬ p → (if p then none else some e) = some e) := by
  by_cases h : p <;> simp [h]

theorem check_signed (n : Nat) (v : Int) :
    OperandKind.check (.signed n) (.imm v) =
      if -(2 ^ (n - 1) : Int) ≤ v ∧ v < 2 ^ n then none else some .immediateOutOfRange := by
  simp only [OperandKind.check, signedFits_iff]

theorem check_unsigned (n : Nat) (v : Int) :
    OperandKind.check (.unsigned n) (.imm v) = if 0 ≤ v ∧ v < 2 ^ n then none else some .immediateOutOfRange := by
  simp only [OperandKind.check, unsignedFits_iff]

/-- Settles O44: each check accepts its range and refuses the rest by one name. -/
theorem immediateRanges : Obligations.ImmediateRanges := by
  intro n v
  rw [check_signed, check_unsigned]
  exact ⟨ite_refusal.1, ite_refusal.1, ite_refusal.2, ite_refusal.2⟩

/-- A signed field of `n` bits holds what an `n`-bit signed operand takes. -/
theorem signedFits_toInt {n : Nat} (v : BitVec n) : OperandKind.signedFits n v.toInt = true := by
  have hlow := BitVec.le_toInt v
  have hhigh := BitVec.toInt_lt (x := v)
  have hpow : (2 : Int) ^ (n - 1) ≤ 2 ^ n := pow_le_pow_right₀ (by decide) (Nat.sub_le n 1)
  exact (signedFits_iff n _).mpr ⟨hlow, by omega⟩

theorem unsignedFits_toNat {n : Nat} (v : BitVec n) : OperandKind.unsignedFits n (v.toNat : Int) = true :=
  (unsignedFits_iff n _).mpr ⟨Int.natCast_nonneg _, by exact_mod_cast v.isLt⟩

@[simp] theorem check_reg_toNat (r : Reg) : OperandKind.check .reg (.reg r.toNat) = none :=
  if_pos r.isLt

/-- An immediate is accepted as it is written. -/
@[simp] theorem check_fieldValue {n : Nat} (z : Bool) (v : BitVec n) :
    (immediateKind n z).check (.imm (fieldValue z v)) = none := by
  cases z with
  | false => exact if_pos (signedFits_toInt v)
  | true => exact if_pos (unsignedFits_toNat v)

/-- A branch offset is accepted exactly when it is a multiple of 4 (R321, assumption 26). -/
theorem check_offset_toInt {n : Nat} (v : BitVec n) :
    OperandKind.check (.offset n) (.imm v.toInt) = none ↔ v.toInt % 4 = 0 := by
  simp [OperandKind.check, signedFits_toInt]

@[simp] theorem ofInt_fieldValue {n : Nat} (z : Bool) (v : BitVec n) : BitVec.ofInt n (fieldValue z v) = v := by
  cases z <;> simp [fieldValue]

/-- A register operand that is accepted is one of the sixteen (R20). -/
theorem eq_reg_of_check {o : Operand} (h : OperandKind.check .reg o = none) : ∃ r : Reg, o = .reg r.toNat := by
  cases o with
  | reg n =>
    have hn : n < 16 := by simpa [OperandKind.check] using h
    exact ⟨BitVec.ofNat 4 n, by rw [BitVec.toNat_ofNat, Nat.mod_eq_of_lt hn]⟩
  | imm v => cases h

theorem eq_imm_of_check_immediateKind {n : Nat} {z : Bool} {o : Operand}
    (h : (immediateKind n z).check o = none) : ∃ v, o = .imm v := by
  cases o with
  | reg k => cases z <;> cases h
  | imm v => exact ⟨v, rfl⟩

theorem eq_imm_of_check_offset {n : Nat} {o : Operand} (h : OperandKind.check (.offset n) o = none) :
    ∃ v, o = .imm v := by
  cases o with
  | reg k => cases h
  | imm v => exact ⟨v, rfl⟩

theorem checkOperands_nil (ops : List Operand) : AsmLine.checkOperands [] ops = none ↔ ops = [] := by
  cases ops <;> simp [AsmLine.checkOperands]

theorem checkOperands_cons (k : OperandKind) (ks : List OperandKind) (ops : List Operand) :
    AsmLine.checkOperands (k :: ks) ops = none ↔
      ∃ o os, ops = o :: os ∧ k.check o = none ∧ AsmLine.checkOperands ks os = none := by
  cases ops with
  | nil => simp [AsmLine.checkOperands]
  | cons o os =>
    cases hk : k.check o <;> simp [AsmLine.checkOperands, hk]

/-- A register in an accepted line. -/
theorem eq_reg_cons_of_checkOperands {ks : List OperandKind} {ops : List Operand}
    (h : AsmLine.checkOperands (.reg :: ks) ops = none) :
    ∃ (r : Reg) (os : List Operand), ops = .reg r.toNat :: os ∧ AsmLine.checkOperands ks os = none := by
  obtain ⟨o, os, rfl, ho, hos⟩ := (checkOperands_cons ..).mp h
  obtain ⟨r, rfl⟩ := eq_reg_of_check ho
  exact ⟨r, os, rfl, hos⟩

/-- An immediate at the end of an accepted line. -/
theorem eq_imm_of_checkOperands {n : Nat} {z : Bool} {ops : List Operand}
    (h : AsmLine.checkOperands [immediateKind n z] ops = none) : ∃ v, ops = [.imm v] := by
  obtain ⟨o, os, rfl, ho, hos⟩ := (checkOperands_cons ..).mp h
  obtain ⟨v, rfl⟩ := eq_imm_of_check_immediateKind ho
  obtain rfl := (checkOperands_nil os).mp hos
  exact ⟨v, rfl⟩

/-- The offset of an accepted branch. -/
theorem eq_offset_of_checkOperands {n : Nat} {ops : List Operand}
    (h : AsmLine.checkOperands [.offset n] ops = none) : ∃ v, ops = [.imm v] := by
  obtain ⟨o, os, rfl, ho, hos⟩ := (checkOperands_cons ..).mp h
  obtain ⟨v, rfl⟩ := eq_imm_of_check_offset ho
  obtain rfl := (checkOperands_nil os).mp hos
  exact ⟨v, rfl⟩

/-! ## The operand fields of a word (R93) -/

section
variable (d a b : Reg) (v : Int)

@[simp] theorem fields_rrr : Format.fields .rrr [.reg d.toNat, .reg a.toNat, .reg b.toNat] =
    some (putField d 20 ||| putField a 16 ||| putField b 12) := by
  simp [Format.fields, putField]

@[simp] theorem fields_rri16 : Format.fields .rri16 [.reg d.toNat, .reg a.toNat, .imm v] =
    some (putField d 20 ||| putField a 16 ||| putField (BitVec.ofInt 16 v) 0) := by
  simp [Format.fields, putField]

@[simp] theorem fields_rxr : Format.fields .rxr [.reg d.toNat, .reg b.toNat] =
    some (putField d 20 ||| putField b 12) := by
  simp [Format.fields, putField]

@[simp] theorem fields_ri20 : Format.fields .ri20 [.reg d.toNat, .imm v] =
    some (putField d 20 ||| putField (BitVec.ofInt 20 v) 0) := by
  simp [Format.fields, putField]

@[simp] theorem fields_rxi16 : Format.fields .rxi16 [.reg d.toNat, .imm v] =
    some (putField d 20 ||| putField (BitVec.ofInt 16 v) 0) := by
  simp [Format.fields, putField]

@[simp] theorem fields_xrr : Format.fields .xrr [.reg a.toNat, .reg b.toNat] =
    some (putField a 16 ||| putField b 12) := by
  simp [Format.fields, putField]

@[simp] theorem fields_xri16 : Format.fields .xri16 [.reg a.toNat, .imm v] =
    some (putField a 16 ||| putField (BitVec.ofInt 16 v) 0) := by
  simp [Format.fields, putField]

@[simp] theorem fields_sd16 : Format.fields .sd16 [.reg b.toNat, .reg a.toNat, .imm v] =
    some (putField ((BitVec.ofInt 16 v).extractLsb' 12 4) 20 ||| putField a 16 ||| putField b 12 |||
      putField ((BitVec.ofInt 16 v).extractLsb' 0 12) 0) := by
  simp [Format.fields, putField]

@[simp] theorem fields_s20 : Format.fields .s20 [.reg b.toNat, .imm v] =
    some (putField ((BitVec.ofInt 20 v).extractLsb' 12 8) 16 ||| putField b 12 |||
      putField ((BitVec.ofInt 20 v).extractLsb' 0 12) 0) := by
  simp [Format.fields, putField]

@[simp] theorem fields_br : Format.fields .br [.imm v] = some (putField (BitVec.ofInt 22 v) 4) := by
  simp [Format.fields, putField]

@[simp] theorem fields_i24 : Format.fields .i24 [.imm v] = some (putField (BitVec.ofInt 24 v) 0) := by
  simp [Format.fields, putField]

end

/-- Operands that pass the checks have their fields, on bits that the format does not fix. -/
theorem exists_fields_of_checkOperands {f : Format} {z : Bool} {ops : List Operand}
    (h : AsmLine.checkOperands (f.kinds z) ops = none) : ∃ x, f.fields ops = some x ∧ x &&& f.mask = 0 := by
  cases f with
  | rrr =>
    obtain ⟨d, _, rfl, hd⟩ := eq_reg_cons_of_checkOperands h
    obtain ⟨a, _, rfl, ha⟩ := eq_reg_cons_of_checkOperands hd
    obtain ⟨b, _, rfl, hb⟩ := eq_reg_cons_of_checkOperands ha
    obtain rfl := (checkOperands_nil _).mp hb
    simp [Format.mask, BitVec.and_or_distrib_right, putField_and]
  | rri16 | sd16 =>
    obtain ⟨r, _, rfl, hr⟩ := eq_reg_cons_of_checkOperands h
    obtain ⟨a, _, rfl, ha⟩ := eq_reg_cons_of_checkOperands hr
    obtain ⟨v, rfl⟩ := eq_imm_of_checkOperands ha
    simp [Format.mask, BitVec.and_or_distrib_right, putField_and]
  | rxr | xrr =>
    obtain ⟨r, _, rfl, hr⟩ := eq_reg_cons_of_checkOperands h
    obtain ⟨b, _, rfl, hb⟩ := eq_reg_cons_of_checkOperands hr
    obtain rfl := (checkOperands_nil _).mp hb
    simp [Format.mask, BitVec.and_or_distrib_right, putField_and]
  | ri20 | rxi16 | xri16 | s20 =>
    obtain ⟨r, _, rfl, hr⟩ := eq_reg_cons_of_checkOperands h
    obtain ⟨v, rfl⟩ := eq_imm_of_checkOperands hr
    simp [Format.mask, BitVec.and_or_distrib_right, putField_and]
  | br =>
    obtain ⟨v, rfl⟩ := eq_offset_of_checkOperands h
    simp [Format.mask, putField_and]
  | i24 =>
    obtain ⟨v, rfl⟩ := eq_imm_of_checkOperands h
    simp [Format.mask, putField_and]

/-- The fields of an instruction's own line complete the bits that its format fixes to its word. -/
theorem exists_fields_asm (i : Instr) :
    ∃ x, i.format.fields i.asm.operands = some x ∧ (encode i &&& i.format.mask) ||| x = encode i := by
  cases encodingForm i with
  | rrr mk op m25 m24 m hencode _ hline d a b =>
    rw [(hline d a b).format_eq, (hline d a b).asm_eq, hencode, Format.mask, encodeRRR_and]
    exact ⟨_, fields_rrr d a b, by simp [encodeRRR, BitVec.or_assoc]⟩
  | rri16 z mk op m25 m24 m hencode _ hline d a imm =>
    rw [(hline d a imm).format_eq, (hline d a imm).asm_eq, hencode, Format.mask, encodeRRI16_and]
    exact ⟨_, fields_rri16 d a _, by simp [encodeRRI16, BitVec.or_assoc]⟩
  | rxr mk op m25 m24 m hencode _ hline d b =>
    rw [(hline d b).format_eq, (hline d b).asm_eq, hencode, Format.mask, encodeRxR_and]
    exact ⟨_, fields_rxr d b, by simp [encodeRxR, BitVec.or_assoc]⟩
  | ri20 z mk op m25 m24 m hencode _ hline d imm =>
    rw [(hline d imm).format_eq, (hline d imm).asm_eq, hencode, Format.mask, encodeRI20_and]
    exact ⟨_, fields_ri20 d _, by simp [encodeRI20, BitVec.or_assoc]⟩
  | rxi16 z mk op m25 m24 m hencode _ hline d imm =>
    rw [(hline d imm).format_eq, (hline d imm).asm_eq, hencode, Format.mask, encodeRxI16_and]
    exact ⟨_, fields_rxi16 d _, by simp [encodeRxI16, BitVec.or_assoc]⟩
  | xrr mk op m25 m24 m hencode _ hline a b =>
    rw [(hline a b).format_eq, (hline a b).asm_eq, hencode, Format.mask, encodeXRR_and]
    exact ⟨_, fields_xrr a b, by simp [encodeXRR, BitVec.or_assoc]⟩
  | xri16 z mk op m25 m24 m hencode _ hline a imm =>
    rw [(hline a imm).format_eq, (hline a imm).asm_eq, hencode, Format.mask, encodeXRI16_and]
    exact ⟨_, fields_xri16 a _, by simp [encodeXRI16, BitVec.or_assoc]⟩
  | sd16 z mk op m25 m24 m hencode _ hline b a imm =>
    rw [(hline b a imm).format_eq, (hline b a imm).asm_eq, hencode, Format.mask, encodeSD16_and]
    exact ⟨_, fields_sd16 a b _, by simp [encodeSD16, BitVec.or_assoc]⟩
  | s20 z mk op m25 m24 m hencode _ hline b imm =>
    rw [(hline b imm).format_eq, (hline b imm).asm_eq, hencode, Format.mask, encodeS20_and]
    exact ⟨_, fields_s20 b _, by simp [encodeS20, BitVec.or_assoc]⟩
  | br mk cond m hencode _ hline _ imm =>
    rw [(hline imm).format_eq, (hline imm).asm_eq, hencode, Format.mask, encodeB_and]
    refine ⟨_, fields_br _, ?_⟩
    rw [ofInt_fieldValue, encodeB, BitVec.or_assoc, BitVec.or_comm (putField cond 0), ← BitVec.or_assoc]
  | i24 z mk op m25 m24 m hencode _ hline imm =>
    rw [(hline imm).format_eq, (hline imm).asm_eq, hencode, Format.mask, encodeI24_and]
    exact ⟨_, fields_i24 _, by simp [encodeI24]⟩

theorem HasLine.checkOperands_eq {i : Instr} {m : String} {f : Format} {z : Bool} {ops : List Operand}
    (h : HasLine i m f z ops) : AsmLine.checkOperands (i.format.kinds i.zeroExtends) i.asm.operands =
      AsmLine.checkOperands (f.kinds z) ops := by
  rw [h.format_eq, h.zeroExtends_eq, h.asm_eq]

/-- The operands of an instruction's own line pass their checks, the offset of a branch apart. -/
theorem checkOperands_asm {i : Instr} (h : Machine.branchCond i = none) :
    AsmLine.checkOperands (i.format.kinds i.zeroExtends) i.asm.operands = none := by
  cases encodingForm i with
  | rrr mk op m25 m24 m _ _ hline | rxr mk op m25 m24 m _ _ hline | xrr mk op m25 m24 m _ _ hline
  | rxi16 z mk op m25 m24 m _ _ hline | sd16 z mk op m25 m24 m _ _ hline | i24 z mk op m25 m24 m _ _ hline
  | rri16 z mk op m25 m24 m _ _ hline | ri20 z mk op m25 m24 m _ _ hline
  | xri16 z mk op m25 m24 m _ _ hline | s20 z mk op m25 m24 m _ _ hline =>
    rw [(hline ..).checkOperands_eq]
    simp [Format.kinds, AsmLine.checkOperands]
  | br mk cond m _ _ _ hbranch imm => exact absurd h (hbranch imm)

/-! ## A line and its row (R93, R94, R96) -/

/-- The assembler knows each mnemonic of the table, and by its own spelling. -/
theorem mnemonic_of_mem {row : OpcodeRow} (h : row ∈ opcodeRows) :
    row.mnemonic ∉ AsmLine.systemMnemonics ∧ row.mnemonic ≠ "B" ∧
      AsmLine.canonicalMnemonic row.mnemonic = row.mnemonic := by
  have hall := List.all_eq_true.mp opcodeRows_mnemonics _ h
  simp only [List.contains_eq_mem, Bool.and_eq_true, Bool.not_eq_true', decide_eq_false_iff_not, List.mem_cons,
    not_or, beq_iff_eq] at hall
  obtain ⟨⟨hbare, hsystem⟩, hcanonical⟩ := hall
  exact ⟨hsystem, hbare, hcanonical⟩

theorem signature_of_system {m : String} (h : m ∈ AsmLine.systemMnemonics) :
    AsmLine.signature m = .error .systemInstruction := by
  simp [AsmLine.signature, h]

/-- The operand kinds of a mnemonic that is accepted are those of the mnemonic it stands for. -/
theorem signature_eq_ok_iff (m : String) (ks : List OperandKind) :
    AsmLine.signature m = .ok ks ↔ m ∉ AsmLine.systemMnemonics ∧ m ≠ "B" ∧
      ∃ m', AsmLine.signatures.find? (fun s => s.1 == AsmLine.canonicalMnemonic m) = some (m', ks) := by
  by_cases hsystem : m ∈ AsmLine.systemMnemonics
  · simp [signature_of_system hsystem, hsystem]
  by_cases hbare : m = "B"
  · simp [AsmLine.signature, hsystem, ← hbare]
  cases hfind : AsmLine.signatures.find? (fun s => s.1 == AsmLine.canonicalMnemonic m) with
  | none => simp [AsmLine.signature, hsystem, hbare, hfind]
  | some s => simp [AsmLine.signature, hsystem, hbare, hfind, Prod.ext_iff]

theorem check_eq_none_iff (l : AsmLine) :
    l.check = none ↔ ∃ ks, AsmLine.signature l.mnemonic = .ok ks ∧ AsmLine.checkOperands ks l.operands = none := by
  rw [AsmLine.check]
  cases AsmLine.signature l.mnemonic <;> simp

theorem wf_iff (l : AsmLine) : l.wf = true ↔ l.check = none := by
  rw [AsmLine.wf, Option.isNone_iff_eq_none]

/-- A refused line assembles to nothing. -/
theorem assemble_of_check_ne_none {l : AsmLine} (h : l.check ≠ none) : assemble l = none := by
  obtain ⟨e, he⟩ := Option.ne_none_iff_exists'.mp h
  simp [assemble, he]

/-- An accepted line assembles to its row's value with the fields put in. -/
theorem assemble_of_row {l : AsmLine} {row : OpcodeRow} {x : Word} (h : l.check = none)
    (hrow : rowOf (AsmLine.canonicalMnemonic l.mnemonic) = some row) (hx : row.format.fields l.operands = some x) :
    assemble l = some (row.value ||| x) := by
  simp [assemble, h, hrow, hx]

/-- An instruction's entry: its row, which accepts its word, and the signature of its mnemonic. -/
theorem exists_entry (i : Instr) : ∃ row ∈ opcodeRows, rowOf i.mnemonic = some row ∧ row.accepts (encode i) = true ∧
    row.format = i.format ∧ row.mnemonic = i.mnemonic ∧
      AsmLine.signature i.mnemonic = .ok (i.format.kinds i.zeroExtends) := by
  obtain ⟨row, hrow, haccepts⟩ := Laws.RowMatch.statement i
  obtain ⟨hnone, -⟩ | ⟨row', ks, hentry, hrow', hsig⟩ := rowOf_and_signatures_find i.mnemonic
  · cases hrow.symm.trans hnone
  obtain rfl : row = row' := Option.some.inj (hrow.symm.trans hrow')
  obtain ⟨hmem, hmnemonic⟩ := rowOf_eq_some hrow
  obtain ⟨j, hj, hentryOf⟩ := exists_encode_of_accepts hentry haccepts
  obtain rfl : j = i := encode_injective hj
  obtain ⟨hsystem, hbare, hcanonical⟩ := mnemonic_of_mem hmem
  rw [hmnemonic] at hsystem hbare hcanonical
  refine ⟨row, hmem, hrow, haccepts, hentryOf.format_eq.symm, hmnemonic, ?_⟩
  exact (signature_eq_ok_iff _ _).mpr ⟨hsystem, hbare, j.mnemonic, by rw [hcanonical, hsig, hentryOf.kinds_eq]⟩

/-! ## The system mnemonics (R96) -/

/-- Settles O41: the assembler refuses the seven by name before it looks at an operand, and no row of the table has
one of them as its mnemonic, where every instruction has a row. -/
theorem systemMnemonicsHaveNoEncoding : Obligations.SystemMnemonicsHaveNoEncoding := by
  intro m hm
  have hrow : rowOf m = none := Option.eq_none_iff_forall_not_mem.mpr fun row hrow => by
    obtain ⟨hmem, rfl⟩ := rowOf_eq_some hrow
    exact (mnemonic_of_mem hmem).1 hm
  refine ⟨fun ops => ?_, fun w i _ hi => ?_, hrow⟩
  · have hcheck : AsmLine.check ⟨m, ops⟩ = some .systemInstruction := by
      simp [AsmLine.check, signature_of_system hm]
    exact ⟨hcheck, assemble_of_check_ne_none (by simp [hcheck])⟩
  · obtain ⟨row, -, hi', -⟩ := exists_entry i
    rw [hi, hrow] at hi'
    cases hi'

/-! ## Lines of instructions, and any accepted line (R93, R94, R98, R321) -/

/-- The line of an instruction is accepted when its operands are. -/
theorem wf_asm_iff (i : Instr) :
    i.asm.wf = true ↔ AsmLine.checkOperands (i.format.kinds i.zeroExtends) i.asm.operands = none := by
  obtain ⟨row, -, -, -, -, -, hsig⟩ := exists_entry i
  have hsig' : AsmLine.signature i.asm.mnemonic = .ok (i.format.kinds i.zeroExtends) := hsig
  rw [wf_iff, check_eq_none_iff, hsig']
  simp

/-- An accepted line of an instruction assembles to the instruction's word. -/
theorem assemble_asm {i : Instr} (h : i.asm.wf = true) : assemble i.asm = some (encode i) := by
  obtain ⟨row, hmem, hrow, haccepts, hformat, hmnemonic, -⟩ := exists_entry i
  obtain ⟨x, hx, hword⟩ := exists_fields_asm i
  obtain ⟨-, -, hcanonical⟩ := mnemonic_of_mem hmem
  have hspelling : AsmLine.canonicalMnemonic i.mnemonic = i.mnemonic :=
    hmnemonic ▸ hcanonical
  rw [← hformat] at hx hword
  rw [(accepts_iff hmem _).mp haccepts] at hword
  rw [assemble_of_row ((wf_iff _).mp h) (hspelling.symm ▸ hrow) hx, hword]

/-- Settles O42: an instruction's line passes its checks, where a branch is accepted by its offset alone; and the
fields of its operands complete the row's value to its word. -/
theorem assemblerAgreesWithEncoder : Obligations.AssemblerAgreesWithEncoder := by
  refine ⟨fun i => ⟨fun h => (wf_asm_iff i).mpr (checkOperands_asm h), assemble_asm⟩, fun imm mk hmk => ?_⟩
  have hline : ∃ m, HasLine (mk imm) m .br false [.imm imm.toInt] := by
    fin_cases hmk <;> exact ⟨_, rfl, rfl, rfl⟩
  obtain ⟨m, hline⟩ := hline
  rw [wf_asm_iff, hline.checkOperands_eq, Format.kinds, checkOperands_cons]
  simp [checkOperands_nil, check_offset_toInt]

/-- Settles O43: a line that is accepted has a row, and the row's value with the line's fields is a word that the row
accepts. -/
theorem acceptedLinesAssemble : Obligations.AcceptedLinesAssemble := by
  intro l
  refine ⟨fun h => ?_, fun h => assemble_of_check_ne_none fun hnone => ?_⟩
  · have hcheck := (wf_iff l).mp h
    obtain ⟨ks, hsig, hops⟩ := (check_eq_none_iff l).mp hcheck
    obtain ⟨-, -, m', hfind⟩ := (signature_eq_ok_iff _ _).mp hsig
    obtain ⟨-, hnone⟩ | ⟨row, ks', hentry, hrow, hfind'⟩ :=
      rowOf_and_signatures_find (AsmLine.canonicalMnemonic l.mnemonic)
    · cases hfind.symm.trans hnone
    obtain ⟨rfl, rfl⟩ : m' = _ ∧ ks = ks' := Prod.mk.inj (Option.some.inj (hfind.symm.trans hfind'))
    obtain ⟨hmem, hmnemonic⟩ := rowOf_eq_some hrow
    obtain ⟨i, -, hi⟩ := exists_encode_eq_value hentry
    obtain ⟨x, hx, hmask⟩ := exists_fields_of_checkOperands (hi.kinds_eq.symm ▸ hops)
    rw [hi.format_eq] at hx hmask
    have haccepts : row.accepts (row.value ||| x) = true := by
      rw [accepts_iff hmem, BitVec.and_or_distrib_right, hmask, value_and_mask_of_mem hmem]
      simp
    obtain ⟨j, hj, hjm⟩ := decode_of_accepts hmem haccepts
    exact ⟨_, j, assemble_of_row hcheck hrow hx, hj, hjm.trans hmnemonic⟩
  · rw [(wf_iff l).mpr hnone] at h
    cases h

end Sys2Proof

/-!
PROOFS. Single words (spec/30_encoding.md R71 to R81, R87 to R91): the examples, the no-operations, and the words that
are no instruction. Settles O31, O40 and O39.
-/

namespace Sys2Proof.Machine

/-! ## Example words and no-operations (R71 to R81, R91) -/

/-- Settles O31: each word is the encoding of its instruction, computed. -/
theorem exampleWordsDecode : Obligations.ExampleWordsDecode :=
  have hbeq : encode (.beq (BitVec.ofInt 22 (-36))) = 0xCBFFFDC0 := by decide
  ⟨decodeOfEncode (.add 0 1 2), decodeOfEncode (.addis 0 1 6), decodeOfEncode (.mov 0 2), decodeOfEncode (.not 0 1),
    decodeOfEncode (.jmpil 6 72), decodeOfEncode (.movh 0 59), decodeOfEncode (.cmps 1 2),
    decodeOfEncode (.cmpis 1 9), decodeOfEncode (.str 2 1 310), decodeOfEncode (.strr 3 200),
    hbeq ▸ decodeOfEncode _, decodeOfEncode (.jmpi 72)⟩

/-- A register written with its own value. -/
theorem State.setReg_reg_self (s : State) (r : Reg) : s.setReg r (s.reg r) = s := by
  simp [State.setReg, State.reg]

theorem exec_mov_self (s : State) (r : Reg) : exec (.mov r r) s = .next s.advance :=
  (writeReg_next r (s.reg r) s _).mpr (by rw [State.setReg_reg_self])

/-- Settles O40: the four compare forms discard their result, and MOV of a register to itself writes what is there. -/
theorem noOperations : Obligations.NoOperations :=
  ⟨fun r _ _ _ s => ⟨rfl, rfl, rfl, rfl, exec_mov_self s r⟩, decodeOfEncode (.mov 0 0), rfl⟩

/-! ## Words that are no instruction (R88, R89, R90) -/

theorem step_of_reservedEncoding {s : State} {w : Word} (hend : s.atEnd = false) (hw : s.fetch = .ok w)
    (hdec : decode w = .reservedEncoding) : step s = .fault (.reservedEncoding s.pc) :=
  (step_fault s _).mpr ⟨hend, .inl (by simp [State.fetchDecode, hw, hdec, decodeFault])⟩

theorem step_of_illegalInstruction {s : State} {w : Word} (hend : s.atEnd = false) (hw : s.fetch = .ok w)
    (hdec : decode w = .illegalInstruction) : step s = .fault (.illegalInstruction s.pc) :=
  (step_fault s _).mpr ⟨hend, .inl (by simp [State.fetchDecode, hw, hdec, decodeFault])⟩

section
variable {w : Word}

theorem decodeForm_mov_reserved (h25 : mode25 w = false) (h24 : mode24 w = true) : decodeForm .mov w = none := by
  simp only [decodeForm, decodeMov, h25, h24]

theorem decodeForm_movh_reserved (h24 : mode24 w = true) : decodeForm .movh w = none := by
  cases h25 : mode25 w <;> simp only [decodeForm, decodeMovh, h25, h24]

/-- The loads and stores are the eight opcodes 28 to 2F, and mode bits 11 are reserved in each. -/
theorem exists_loadStore_reserved (hlow : 0x28 ≤ (opcodeField w).toNat) (hhigh : (opcodeField w).toNat ≤ 0x2F)
    (h25 : mode25 w = true) (h24 : mode24 w = true) :
    ∃ op : Opcode, opcodeField w = op.bits ∧ decodeForm op w = none := by
  have hload : ∀ mk mkI mkR, decodeLoad mk mkI mkR w = none := fun _ _ _ => by simp only [decodeLoad, h25, h24]
  have hstore : ∀ mk mkI mkR, decodeStore mk mkI mkR w = none := fun _ _ _ => by simp only [decodeStore, h25, h24]
  obtain h | h | h | h | h | h | h | h : (opcodeField w).toNat = 0x28 ∨ (opcodeField w).toNat = 0x29 ∨
      (opcodeField w).toNat = 0x2A ∨ (opcodeField w).toNat = 0x2B ∨ (opcodeField w).toNat = 0x2C ∨
      (opcodeField w).toNat = 0x2D ∨ (opcodeField w).toNat = 0x2E ∨ (opcodeField w).toNat = 0x2F := by omega
  · exact ⟨.ldr, BitVec.eq_of_toNat_eq h, hload ..⟩
  · exact ⟨.ldrb, BitVec.eq_of_toNat_eq h, hload ..⟩
  · exact ⟨.ldrsb, BitVec.eq_of_toNat_eq h, hload ..⟩
  · exact ⟨.ldrh, BitVec.eq_of_toNat_eq h, hload ..⟩
  · exact ⟨.ldrsh, BitVec.eq_of_toNat_eq h, hload ..⟩
  · exact ⟨.str, BitVec.eq_of_toNat_eq h, hstore ..⟩
  · exact ⟨.strb, BitVec.eq_of_toNat_eq h, hstore ..⟩
  · exact ⟨.strh, BitVec.eq_of_toNat_eq h, hstore ..⟩

theorem decodeForm_b_reserved (hcond : condField w = 0xF) : decodeForm .b w = none := by
  rw [decodeForm, decodeB, hcond]
  rfl

end

/-- No assigned opcode is one of the 31 values that the map leaves open (R86, R89). -/
theorem bits_assigned (op : Opcode) : ¬ (0x0D ≤ op.bits.toNat ∧ op.bits.toNat ≤ 0x17 ∨
    0x1D ≤ op.bits.toNat ∧ op.bits.toNat ≤ 0x20 ∨ op.bits.toNat = 0x26 ∨ op.bits.toNat = 0x27 ∨
    op.bits.toNat = 0x30 ∨ op.bits.toNat = 0x31 ∨ 0x34 ≤ op.bits.toNat) := by
  cases op <;> decide

theorem decode_of_unassigned {w : Word} (h : ∀ op : Opcode, opcodeField w ≠ op.bits) :
    decode w = .illegalInstruction := by
  obtain ⟨op, -, hop, -⟩ | ⟨op, hop, -⟩ | ⟨-, hdec⟩ := decode_cases w
  · exact absurd hop (h op)
  · exact absurd hop (h op)
  · exact hdec

/-- Settles O39: the reserved forms decode to none by their mode bits or condition, and the open values are the bits of
no opcode. -/
theorem reservedWordsFault : Obligations.ReservedWordsFault := by
  refine ⟨fun s w hend hw => ⟨?mov, ?movh, ?loadStore, ?branch, ?unassigned⟩, ?count⟩
  case mov =>
    rintro ⟨hop, h25, h24⟩
    exact step_of_reservedEncoding hend hw
      (decode_of_decodeForm_none (op := .mov) (BitVec.eq_of_toNat_eq hop) (decodeForm_mov_reserved h25 h24))
  case movh =>
    rintro ⟨hop, h24⟩
    exact step_of_reservedEncoding hend hw
      (decode_of_decodeForm_none (op := .movh) (BitVec.eq_of_toNat_eq hop) (decodeForm_movh_reserved h24))
  case loadStore =>
    rintro ⟨hlow, hhigh, h25, h24⟩
    obtain ⟨op, hop, hform⟩ := exists_loadStore_reserved hlow hhigh h25 h24
    exact step_of_reservedEncoding hend hw (decode_of_decodeForm_none hop hform)
  case branch =>
    rintro ⟨hop, hcond⟩
    exact step_of_reservedEncoding hend hw
      (decode_of_decodeForm_none (op := .b) (BitVec.eq_of_toNat_eq hop) (decodeForm_b_reserved hcond))
  case unassigned =>
    intro hvalue
    have hopen : ∀ op : Opcode, opcodeField w ≠ op.bits := fun op hop => bits_assigned op (hop ▸ hvalue)
    exact step_of_illegalInstruction hend hw (decode_of_unassigned hopen)
  case count => decide

end Sys2Proof.Machine

/-!
PROOFS. The basic arithmetic family (spec/40_arith_basic.md): what AddOp, SubOp and the unsigned MulOp answer, in exact
integers, and what a constant put together from two halves is. Settles O5, O55, O57, O1, O2, O3 and O4.
-/

namespace Sys2Proof.Machine

/-! ## N and Z (spec/40_arith_basic.md R111) -/

theorem negativeFlag_eq_msb (r : Word) : negativeFlag r = r.msb := r.msb_eq_getLsbD_last.symm

theorem zeroFlag_eq_decide (r : Word) : zeroFlag r = decide (r = 0) := rfl

/-! ## AddOp (spec/40_arith_basic.md R116) -/

/-- The exact sum has 33 bits, so that its top bit says whether it reaches 2^32. -/
theorem addOp_carry (a b : Word) : (addOp a b).carry = decide (2 ^ 32 ≤ a.toNat + b.toNat) := by
  have hcarry : (addOp a b).carry = (a.toNat + b.toNat).testBit 32 := rfl
  rw [hcarry, Nat.testBit_eq_decide_div_mod_eq, decide_eq_decide]
  omega

theorem addOp_value (a b : Word) : (addOp a b).value = a + b := by
  simp [addOp, BitVec.ofNat_add]

/-- V of AddOp is the library's signed overflow: equal signs that the sum does not have. -/
theorem addOp_overflow (a b : Word) : (addOp a b).overflow = a.saddOverflow b := by
  have hoverflow : (addOp a b).overflow =
      (a.getLsbD 31 == b.getLsbD 31 && a.getLsbD 31 != (addOp a b).value.getLsbD 31) := rfl
  rw [hoverflow, addOp_value, BitVec.saddOverflow_eq]
  simp only [BitVec.msb_eq_getLsbD_last]
  cases a.getLsbD 31 <;> simp

/-- The flags of AddOp as O3 writes them. -/
theorem addOp_flags (a b : Word) : (addOp a b).flags =
    ⟨(BitVec.ofNat 32 (a.toNat + b.toNat)).getLsbD 31, decide (BitVec.ofNat 32 (a.toNat + b.toNat) = 0),
      decide (2 ^ 32 ≤ a.toNat + b.toNat),
      a.getLsbD 31 == b.getLsbD 31 && a.getLsbD 31 != (BitVec.ofNat 32 (a.toNat + b.toNat)).getLsbD 31⟩ := by
  rw [AluOut.flags, addOp_carry, zeroFlag_eq_decide]
  rfl

/-! ## SubOp (spec/40_arith_basic.md R121) -/

theorem subOp_value (a b : Word) : (subOp a b).value = a - b := by
  have hvalue : (subOp a b).value = BitVec.ofInt 32 ((a.toNat : Int) - (b.toNat : Int)) := rfl
  rw [hvalue, BitVec.sub_eq_add_neg, Int.sub_eq_add_neg, BitVec.ofInt_add, BitVec.ofInt_neg]
  simp

/-- The flags of SubOp as O4 and O5 write them. -/
theorem subOp_flags (a b : Word) : (subOp a b).flags =
    ⟨(a - b).getLsbD 31, decide (a - b = 0), decide (b.toNat ≤ a.toNat),
      a.getLsbD 31 != b.getLsbD 31 && a.getLsbD 31 != (a - b).getLsbD 31⟩ := by
  rw [← subOp_value]
  rfl

/-- V of SubOp is the library's signed overflow: different signs, and a difference without the sign of `a`. -/
theorem subOp_overflow (a b : Word) : (subOp a b).overflow = a.ssubOverflow b := by
  have hoverflow : (subOp a b).overflow =
      (a.getLsbD 31 != b.getLsbD 31 && a.getLsbD 31 != (subOp a b).value.getLsbD 31) := rfl
  rw [hoverflow, subOp_value, BitVec.ssubOverflow_eq]
  simp only [BitVec.msb_eq_getLsbD_last]
  cases a.getLsbD 31 <;> simp

/-! ## What a comparison reads off the flags of SubOp (spec/40_arith_basic.md R129) -/

theorem subOp_flags_z (a b : Word) : (subOp a b).flags.z = decide (a = b) := by
  rw [subOp_flags, decide_eq_decide]
  exact sub_eq_zero

theorem subOp_flags_c (a b : Word) : (subOp a b).flags.c = decide (b.toNat ≤ a.toNat) := rfl

/-- N is the sign of the difference where it is exact, and the opposite sign where it overflows. -/
theorem subOp_flags_n_ne_v (a b : Word) :
    ((subOp a b).flags.n != (subOp a b).flags.v) = decide (a.toInt < b.toInt) := by
  have hn : (subOp a b).flags.n = decide ((a - b).toInt < 0) := by
    rw [← BitVec.msb_eq_toInt, ← subOp_value, ← negativeFlag_eq_msb]
    rfl
  have hv : (subOp a b).flags.v = a.ssubOverflow b := subOp_overflow a b
  have hdiff : (a - b).toInt = (a.toInt - b.toInt).bmod (2 ^ 32) := BitVec.toInt_sub
  have ha := a.toInt_lt
  have ha' := a.le_toInt
  have hb := b.toInt_lt
  have hb' := b.le_toInt
  by_cases hover : a.ssubOverflow b = true
  · have hwrap : (a - b).toInt < 0 ↔ ¬ a.toInt < b.toInt := by
      rw [hdiff, Int.bmod_def]
      simp only [BitVec.ssubOverflow, Bool.or_eq_true, decide_eq_true_eq] at hover
      omega
    rw [hn, hv, hover, decide_eq_decide.mpr hwrap, decide_not, Bool.bne_true, Bool.not_not]
  · have hexact : (a - b).toInt < 0 ↔ a.toInt < b.toInt := by
      rw [BitVec.toInt_sub_of_not_ssubOverflow hover]
      omega
    rw [hn, hv, Bool.eq_false_iff.mpr hover, decide_eq_decide.mpr hexact, Bool.bne_false]

theorem subOp_flags_n_eq_v (a b : Word) :
    ((subOp a b).flags.n == (subOp a b).flags.v) = decide (b.toInt ≤ a.toInt) := by
  rw [← Bool.not_not (_ == _), ← bne, subOp_flags_n_ne_v, ← decide_not, decide_eq_decide, not_lt]

/-! ## The exact results (spec/40_arith_basic.md R116, R121; spec/41_arith_muldiv.md R151) -/

theorem saddOverflow_iff (a b : Word) :
    a.saddOverflow b = true ↔ ¬ (-(2 ^ 31) ≤ a.toInt + b.toInt ∧ a.toInt + b.toInt < 2 ^ 31) := by
  simp only [BitVec.saddOverflow, Bool.or_eq_true, decide_eq_true_eq]
  omega

theorem ssubOverflow_iff (a b : Word) :
    a.ssubOverflow b = true ↔ ¬ (-(2 ^ 31) ≤ a.toInt - b.toInt ∧ a.toInt - b.toInt < 2 ^ 31) := by
  simp only [BitVec.ssubOverflow, Bool.or_eq_true, decide_eq_true_eq]
  omega

/-- A carry is what the 32-bit sum lacks of the exact one. -/
theorem addOp_carry_iff (a b : Word) :
    (addOp a b).carry = true ↔ (addOp a b).value.toNat ≠ a.toNat + b.toNat := by
  rw [addOp_carry, addOp_value, BitVec.toNat_add, decide_eq_true_eq]
  omega

/-- Without a borrow the 32-bit difference is the exact one. -/
theorem subOp_carry_iff (a b : Word) :
    (subOp a b).carry = true ↔ ((subOp a b).value.toNat : Int) = (a.toNat : Int) - (b.toNat : Int) := by
  have hcarry : (subOp a b).carry = decide (b.toNat ≤ a.toNat) := rfl
  rw [hcarry, subOp_value, BitVec.toNat_sub, decide_eq_true_eq]
  omega

/-- The unsigned product of two words fits in 64 bits. -/
theorem unsignedProduct_toNat (a b : Word) : (unsignedProduct a b).toNat = a.toNat * b.toNat := by
  have hfits : a.toNat * b.toNat < 2 ^ 32 * 2 ^ 32 := Nat.mul_lt_mul'' a.isLt b.isLt
  rw [← Nat.pow_add] at hfits
  rw [unsignedProduct, BitVec.toNat_ofNat, Nat.mod_eq_of_lt hfits]

theorem extractLsb'_high_ne_zero_iff (p : BitVec 64) :
    p.extractLsb' 32 32 ≠ 0 ↔ (p.extractLsb' 0 32).toNat ≠ p.toNat := by
  have hp := p.isLt
  rw [Ne, ← BitVec.toNat_inj, BitVec.extractLsb'_toNat, BitVec.extractLsb'_toNat, Nat.shiftRight_eq_div_pow,
    Nat.shiftRight_zero, show (0 : Word).toNat = 0 from rfl]
  omega

theorem mulOp_unsigned_overflow_iff (a b : Word) :
    (mulOp .unsigned a b).overflow = true ↔ (mulOp .unsigned a b).value.toNat ≠ a.toNat * b.toNat := by
  rw [← unsignedProduct_toNat]
  exact bne_iff_ne.trans (extractLsb'_high_ne_zero_iff (unsignedProduct a b))

/-- Settles O55: each flag by the lemma that reads it in exact integers. -/
theorem overflowFlagsMeanOverflow : Obligations.OverflowFlagsMeanOverflow := fun a b =>
  ⟨addOp_overflow a b ▸ saddOverflow_iff a b, addOp_carry_iff a b,
    subOp_overflow a b ▸ ssubOverflow_iff a b, subOp_carry_iff a b, mulOp_unsigned_overflow_iff a b⟩

/-! ## Constants from an upper and a lower part (spec/40_arith_basic.md R127, R128) -/

/-- A zero-extended field moved up by `n` bits, as a product. -/
theorem zext_shiftLeft {m : Nat} (v : BitVec m) (n : Nat) :
    zext v <<< n = BitVec.ofNat 32 (v.toNat * 2 ^ n) := by
  apply BitVec.eq_of_toNat_eq
  simp [zext, Nat.shiftLeft_eq]

theorem zext_shiftLeft_or_zext (k : Word) {m n : Nat} (h : m + n = 32) :
    zext (k.extractLsb' n m) <<< n ||| zext (k.extractLsb' 0 n) = k := by
  apply BitVec.eq_of_getLsbD_eq
  intro i hi
  by_cases hlow : i < n
  · simp [zext, hlow, hi]
  · simp [zext, hlow, hi, show i - n < m by omega, show n + (i - n) = i by omega]

theorem shiftLeft_and_zext {n : Nat} (x : Word) (v : BitVec n) : x <<< n &&& zext v = 0 := by
  apply BitVec.eq_of_getLsbD_eq
  intro i hi
  by_cases hlow : i < n
  · simp [zext, hlow]
  · simp [zext, v.getLsbD_of_ge i (by omega)]

/-- MOVH's value and a 16-bit offset have no bit in common, so that a jump adds them without a carry. -/
theorem high16_add_zext (k : Word) :
    high16 (k.extractLsb' 16 16) + zext (k.extractLsb' 0 16) = k := by
  rw [high16, BitVec.add_eq_or_of_and_eq_zero _ _ (shiftLeft_and_zext _ _)]
  exact zext_shiftLeft_or_zext k rfl

theorem zext_setWidth {n m : Nat} (v : BitVec n) (h : n ≤ m) : zext (v.setWidth m) = zext v := by
  apply BitVec.eq_of_toNat_eq
  have hv : v.toNat % 2 ^ m = v.toNat := Nat.mod_eq_of_lt (v.isLt.trans_le (Nat.pow_le_pow_right two_pos h))
  simp [zext, hv]

theorem high16_or_zext (k : Word) : high16 (k.extractLsb' 16 16) ||| zext (k.extractLsb' 0 16) = k :=
  zext_shiftLeft_or_zext k rfl

theorem high20_or_zext (k : Word) :
    high20 (k.extractLsb' 12 20) ||| zext ((k.extractLsb' 0 12).setWidth 16) = k := by
  rw [zext_setWidth _ (by decide)]
  exact zext_shiftLeft_or_zext k rfl

/-- MOVH's value is the constant with its low half cleared. -/
theorem high16_extractLsb' (k : Word) :
    high16 (k.extractLsb' 16 16) = BitVec.ofNat 32 (k.toNat / 2 ^ 16 * 2 ^ 16) := by
  have hhalf : (k.extractLsb' 16 16).toNat = k.toNat / 2 ^ 16 := by
    have hk := k.isLt
    rw [BitVec.extractLsb'_toNat, Nat.shiftRight_eq_div_pow]
    omega
  rw [high16, zext_shiftLeft, hhalf]

/-! ## The meanings (spec/40_arith_basic.md R113 to R133) -/

/-- A value moved to a register, then ORI with the rest of a constant in the same register. -/
theorem ori_after_writeReg {i : Instr} {s : State} {r : Reg} {v k : Word} {imm : BitVec 16}
    (hexec : exec i s = .next (s.setReg r v).advance) (hk : v ||| zext imm = k) :
    ∃ t u, exec i s = .next t ∧ exec (.ori r r imm) t = .next u ∧ u.reg r = k := by
  refine ⟨_, _, hexec, rfl, ?_⟩
  rw [State.reg_advance, State.reg_setReg_same, State.reg_advance, State.reg_setReg_same]
  exact hk

/-- After MOVH of a constant's upper half, the register target with its lower half is the constant. -/
theorem registerTarget_after_movh (s : State) (r : Reg) (k : Word) :
    registerTarget r (k.extractLsb' 0 16) (s.setReg r (high16 (k.extractLsb' 16 16))).advance = k := by
  rw [registerTarget, State.reg_advance, State.reg_setReg_same, high16_add_zext]

theorem State.nextPc_setReg_advance (s : State) (r : Reg) (v : Word) :
    (s.setReg r v).advance.nextPc = s.pc + 8 :=
  BitVec.add_assoc s.pc 4 4

/-- Settles O57: the two parts of a constant have no bit in common, and the jumps read the register that MOVH wrote. -/
theorem longConstantsAndLongJumps : Obligations.LongConstantsAndLongJumps := by
  refine fun r rd k s => ⟨ori_after_writeReg rfl (high16_or_zext k), ori_after_writeReg rfl (high20_or_zext k),
    ⟨_, _, rfl, rfl, registerTarget_after_movh s r k, ?value⟩,
    ⟨_, _, rfl, rfl, registerTarget_after_movh s r k, ?link⟩⟩
  case value => rw [State.reg_setPc, State.reg_advance, State.reg_setReg_same, high16_extractLsb']
  case link => rw [State.reg_setPc, State.reg_setReg_same, State.nextPc_setReg_advance]

/-- Settles O1: the extension of an immediate is its signed or unsigned value. -/
theorem moveForms : Obligations.MoveForms := fun rd rb imm s =>
  ⟨rfl, rfl, (writeReg_next rd (zext imm) s _).mpr (by rw [BitVec.ofNat_toNat]; rfl)⟩

/-- Settles O2: the shift of a zero-extended immediate is a product. -/
theorem moveHighForms : Obligations.MoveHighForms := fun rd imm16 imm20 s =>
  ⟨(writeReg_next rd (high16 imm16) s _).mpr (by rw [high16, zext_shiftLeft]; rfl),
    (writeReg_next rd (high20 imm20) s _).mpr (by rw [high20, zext_shiftLeft]; rfl)⟩

/-- Settles O3: every form is its shared write of AddOp, whose flags `addOp_flags` gives. -/
theorem addForms : Obligations.AddForms := fun rd ra rb imm s =>
  ⟨rfl, rfl,
    (writeRegFlags_next rd (addOp (s.reg ra) (s.reg rb)) s _).mpr (by rw [addOp_flags]; rfl),
    (writeRegFlags_next rd (addOp (s.reg ra) (sext imm)) s _).mpr (by rw [addOp_flags]; rfl)⟩

/-- Settles O4: every form is its shared write of SubOp, whose value is the difference modulo 2^32. -/
theorem subForms : Obligations.SubForms := fun rd ra rb imm s =>
  ⟨(writeReg_next rd (subOp (s.reg ra) (s.reg rb)).value s _).mpr (by rw [subOp_value]; rfl),
    (writeReg_next rd (subOp (s.reg ra) (sext imm)).value s _).mpr (by rw [subOp_value]; rfl),
    (writeRegFlags_next rd (subOp (s.reg ra) (s.reg rb)) s _).mpr (by rw [subOp_value, subOp_flags]; rfl),
    (writeRegFlags_next rd (subOp (s.reg ra) (sext imm)) s _).mpr (by rw [subOp_value, subOp_flags]; rfl)⟩

/-- Settles O5: Z, C and N ≠ V of SubOp are equality, no borrow and signed less-than, and each condition is a Boolean
combination of these. -/
theorem compareForms : Obligations.CompareForms := by
  intro ra rb imm s f
  have hf : ∀ a b, f a b = (subOp a b).flags := fun a b => (subOp_flags a b).symm
  refine ⟨rfl, rfl, (writeFlagsOnly_next (subOp (s.reg ra) (s.reg rb)) s _).mpr (by rw [hf]; rfl),
    (writeFlagsOnly_next (subOp (s.reg ra) (sext imm)) s _).mpr (by rw [hf]; rfl), fun a b => ?_⟩
  have hc := subOp_flags_c a b
  have hz := subOp_flags_z a b
  have hlt := subOp_flags_n_ne_v a b
  have hge := subOp_flags_n_eq_v a b
  have hzUnsigned : (subOp a b).flags.z = decide (a.toNat = b.toNat) :=
    hz.trans (decide_eq_decide.mpr BitVec.toNat_inj.symm)
  have hzSigned : (subOp a b).flags.z = decide (a.toInt = b.toInt) :=
    hz.trans (decide_eq_decide.mpr BitVec.toInt_inj.symm)
  rw [hf]
  refine ⟨hz, ?ne, hc, ?cc, ?hi, ?ls, hge, hlt, ?gt, ?le⟩
  case ne => rw [Cond.holds, hz, decide_not]
  case cc =>
    rw [Cond.holds, hc, ← decide_not, decide_eq_decide]
    omega
  case hi =>
    rw [Cond.holds, hc, hzUnsigned, ← decide_not, ← Bool.decide_and, decide_eq_decide]
    omega
  case ls =>
    rw [Cond.holds, joinCond, hc, hzUnsigned, ← decide_not, ← Bool.decide_or, decide_eq_decide]
    omega
  case gt =>
    rw [Cond.holds, hge, hzSigned, ← decide_not, ← Bool.decide_and, decide_eq_decide]
    omega
  case le =>
    rw [Cond.holds, joinCond, hlt, hzSigned, ← Bool.decide_or, decide_eq_decide]
    omega

end Sys2Proof.Machine

/-!
PROOFS. The multiply and divide family (spec/41_arith_muldiv.md). Each operation is stated once in exact integers, as a
`Computes`; its four forms then follow from `Computes.forms`. Settles O6, O7, O8, O9, O10, O11 and O54.
-/

namespace Sys2Proof.Machine

/-! ## An operation and its four forms (spec/40_arith_basic.md R110, R111) -/

/-- What an operation answers on every pair of operands: the value, C and V. -/
structure Computes (op : Word → Word → AluOut) (value : Word → Word → Word) (carry overflow : Word → Word → Bool) :
    Prop where
  value_eq : ∀ a b, (op a b).value = value a b
  carry_eq : ∀ a b, (op a b).carry = carry a b
  overflow_eq : ∀ a b, (op a b).overflow = overflow a b

section
variable {op : Word → Word → AluOut} {value : Word → Word → Word} {carry overflow : Word → Word → Bool}

/-- N and Z are read off the value (R150). -/
theorem Computes.flags_eq (h : Computes op value carry overflow) (a b : Word) :
    (op a b).flags = ⟨(value a b).getLsbD 31, decide (value a b = 0), carry a b, overflow a b⟩ := by
  rw [AluOut.flags, h.value_eq, h.carry_eq, h.overflow_eq, zeroFlag_eq_decide]
  rfl

/-- The next state of the forms without and with S, for a register operand `b` and an immediate operand `imm`. -/
theorem Computes.forms (h : Computes op value carry overflow) (rd : Reg) (a b imm : Word) (s : State) :
    let flags : Word → Word → Flags := fun a b =>
      ⟨(value a b).getLsbD 31, decide (value a b = 0), carry a b, overflow a b⟩
    writeReg rd (op a b).value s = .next ((s.setReg rd (value a b)).setPc (s.pc + 4)) ∧
    writeReg rd (op a imm).value s = .next ((s.setReg rd (value a imm)).setPc (s.pc + 4)) ∧
    writeRegFlags rd (op a b) s = .next (((s.setReg rd (value a b)).setFlags (flags a b)).setPc (s.pc + 4)) ∧
    writeRegFlags rd (op a imm) s =
      .next (((s.setReg rd (value a imm)).setFlags (flags a imm)).setPc (s.pc + 4)) :=
  ⟨(writeReg_next _ _ _ _).mpr (by rw [h.value_eq]; rfl),
    (writeReg_next _ _ _ _).mpr (by rw [h.value_eq]; rfl),
    (writeRegFlags_next _ _ _ _).mpr (by rw [h.flags_eq, h.value_eq]; rfl),
    (writeRegFlags_next _ _ _ _).mpr (by rw [h.flags_eq, h.value_eq]; rfl)⟩

end

/-! ## Slices of a product (spec/41_arith_muldiv.md R151, R156, R161, R167) -/

/-- Bits `k + n - 1` down to `k` of an integer in two's complement are its floor quotient by `2^k`, modulo `2^n`. -/
theorem extractLsb'_ofInt {w k n : Nat} (h : k + n ≤ w) (x : Int) :
    (BitVec.ofInt w x).extractLsb' k n = BitVec.ofInt n (x / 2 ^ k) := by
  obtain ⟨d, rfl⟩ := Nat.exists_eq_add_of_le h
  have hmod : x % 2 ^ (k + n + d) = x + 2 ^ k * (-(2 ^ d * (x / 2 ^ (k + n + d))) * 2 ^ n) := by
    rw [Int.emod_def]
    ring
  have hdiv : x % 2 ^ (k + n + d) / 2 ^ k = x / 2 ^ k + -(2 ^ d * (x / 2 ^ (k + n + d))) * 2 ^ n := by
    rw [hmod, Int.add_mul_ediv_left _ _ (by positivity)]
  apply BitVec.eq_of_toNat_eq
  rw [← Int.natCast_inj, BitVec.extractLsb'_toNat, BitVec.toNat_ofInt, BitVec.toNat_ofInt, Nat.shiftRight_eq_div_pow]
  push_cast
  rw [Int.toNat_of_nonneg (Int.emod_nonneg _ (by positivity)), Int.toNat_of_nonneg (Int.emod_nonneg _ (by positivity)),
    hdiv, Int.add_mul_emod_self_right]

theorem extractLsb'_eq_ofNat {w : Nat} (p : BitVec w) (k n : Nat) :
    p.extractLsb' k n = BitVec.ofNat n (p.toNat / 2 ^ k) := by
  rw [BitVec.extractLsb', Nat.shiftRight_eq_div_pow]

theorem ofInt_eq_zero_iff (n : Nat) (x : Int) : BitVec.ofInt n x = 0 ↔ x % 2 ^ n = 0 := by
  have hx : 0 ≤ x % 2 ^ n := Int.emod_nonneg _ (by positivity)
  rw [← BitVec.toNat_inj, BitVec.toNat_ofInt]
  push_cast
  simp only [BitVec.ofNat_eq_ofNat, BitVec.toNat_ofNat, Nat.zero_mod]
  omega

/-- The signed product of two words fits in 64 bits. -/
theorem signedProduct_toInt (a b : Word) : (signedProduct a b).toInt = a.toInt * b.toInt := by
  have hlow : -2 ^ 62 ≤ a.toInt * b.toInt := BitVec.le_toInt_mul_toInt
  have hhigh : a.toInt * b.toInt ≤ 2 ^ 62 := BitVec.toInt_mul_toInt_le
  exact BitVec.toInt_ofInt_eq_self (n := a.toInt * b.toInt) (by decide) (by omega) (by omega)

theorem bne_zero_eq_decide {n : Nat} (x : BitVec n) : (x != 0) = decide (x ≠ 0) := by
  rw [decide_not]
  rfl

/-! ## MulOp, MulhOp and MulhuOp (spec/41_arith_muldiv.md R151, R156, R161) -/

theorem mulProduct_eq_ite (m : MulFlagProduct) (a b : Word) : mulProduct m a b =
    if m = .signed then BitVec.ofInt 64 (a.toInt * b.toInt) else BitVec.ofNat 64 (a.toNat * b.toNat) := by
  cases m <;> rfl

/-- Both products have the same low word, that of the product of the words. -/
theorem mulOp_value (m : MulFlagProduct) (a b : Word) :
    (mulOp m a b).value = BitVec.ofNat 32 (a.toNat * b.toNat) := by
  change (mulProduct m a b).extractLsb' 0 32 = _
  cases m with
  | unsigned =>
    rw [extractLsb'_eq_ofNat, pow_zero, Nat.div_one]
    exact congrArg _ (unsignedProduct_toNat a b)
  | signed =>
    rw [mulProduct, signedProduct, extractLsb'_ofInt (by decide), pow_zero, Int.ediv_one, BitVec.ofInt_mul,
      BitVec.ofNat_mul, BitVec.ofNat_toNat, BitVec.ofNat_toNat]
    exact congrArg₂ _ BitVec.ofInt_toInt BitVec.ofInt_toInt

theorem mulOp_computes (m : MulFlagProduct) :
    let product : Word → Word → BitVec 64 := fun a b =>
      if m = .signed then BitVec.ofInt 64 (a.toInt * b.toInt) else BitVec.ofNat 64 (a.toNat * b.toNat)
    Computes (mulOp m) (fun a b => BitVec.ofNat 32 (a.toNat * b.toNat)) (fun a b => (product a b).getLsbD 32)
      (fun a b => decide ((product a b).extractLsb' 32 32 ≠ 0)) where
  value_eq := mulOp_value m
  carry_eq a b := congrArg (BitVec.getLsbD · 32) (mulProduct_eq_ite m a b)
  overflow_eq a b := (bne_zero_eq_decide _).trans
    (congrArg (fun p : BitVec 64 => decide (p.extractLsb' 32 32 ≠ 0)) (mulProduct_eq_ite m a b))

theorem mulhOp_computes :
    Computes mulhOp (fun a b => BitVec.ofInt 32 (a.toInt * b.toInt / 2 ^ 32)) (fun _ _ => false)
      (fun _ _ => false) where
  value_eq a b := extractLsb'_ofInt (by decide) (a.toInt * b.toInt)
  carry_eq _ _ := rfl
  overflow_eq _ _ := rfl

theorem mulhuOp_computes :
    Computes mulhuOp (fun a b => BitVec.ofNat 32 (a.toNat * b.toNat / 2 ^ 32)) (fun _ _ => false)
      (fun _ _ => false) where
  value_eq a b := by rw [mulhuOp, extractLsb'_eq_ofNat, unsignedProduct_toNat]
  carry_eq _ _ := rfl
  overflow_eq _ _ := rfl

/-! ## MulfxOp (spec/41_arith_muldiv.md R166, R167) -/

/-- An 8.8 immediate as a 16.16 operand is its signed value times 2^8 (R166). -/
theorem fx16_eq_ofInt (imm : BitVec 16) : fx16 imm = BitVec.ofInt 32 (imm.toInt * 256) := by
  rw [fx16, BitVec.shiftLeft_eq_mul_twoPow, BitVec.ofInt_mul]
  rfl

theorem repeatBit_toNat (n : Nat) (b : Bool) : (repeatBit n b).toNat = if b then 2 ^ n - 1 else 0 := by
  cases b <;> simp [repeatBit]

/-- Bits 63:48 of a 64-bit word repeat bit 47 exactly when its signed value needs no more than 48 bits. -/
theorem extractLsb'_eq_repeatBit_iff (p : BitVec 64) :
    p.extractLsb' 48 16 = repeatBit 16 (p.getLsbD 47) ↔ -(2 ^ 47) ≤ p.toInt ∧ p.toInt < 2 ^ 47 := by
  have hp := p.isLt
  have hbit : p.getLsbD 47 = decide (p.toNat / 2 ^ 47 % 2 = 1) := Nat.testBit_eq_decide_div_mod_eq
  rw [← BitVec.toNat_inj, BitVec.extractLsb'_toNat, repeatBit_toNat, Nat.shiftRight_eq_div_pow, hbit,
    BitVec.toInt_eq_toNat_cond]
  simp only [decide_eq_true_eq]
  split <;> split <;> omega

theorem mulfxOp_computes :
    Computes mulfxOp (fun a b => BitVec.ofInt 32 (a.toInt * b.toInt / 2 ^ 16))
      (fun a b => decide (a.toInt * b.toInt % 2 ^ 16 ≠ 0))
      (fun a b => decide (¬ (-(2 ^ 47) ≤ a.toInt * b.toInt ∧ a.toInt * b.toInt < 2 ^ 47))) where
  value_eq a b := extractLsb'_ofInt (by decide) (a.toInt * b.toInt)
  carry_eq a b := by
    change ((BitVec.ofInt 64 (a.toInt * b.toInt)).extractLsb' 0 16 != 0) = _
    rw [bne_zero_eq_decide, extractLsb'_ofInt (by decide), pow_zero, Int.ediv_one, decide_eq_decide]
    exact (ofInt_eq_zero_iff 16 _).not
  overflow_eq a b := by
    rw [← signedProduct_toInt, decide_not, ← decide_eq_decide.mpr (extractLsb'_eq_repeatBit_iff _)]
    rfl

/-! ## DivOp, ModOp, DivuOp and ModuOp (spec/41_arith_muldiv.md R172 to R188) -/

/-- The remainder that ModOp writes for a divisor that is not zero, before it is cut to 32 bits (R183). -/
def signedRemainder (m : SdivRounding) (a b : Int) : Int := a - signedQuotient m a b * b

theorem signedRemainder_truncate (a b : Int) : signedRemainder .truncate a b = a.tmod b := by
  rw [Int.tmod_def, mul_comm]
  rfl

theorem signedRemainder_floor (a b : Int) : signedRemainder .floor a b = a.fmod b := by
  rw [Int.fmod_def, mul_comm]
  rfl

theorem divOp_value (m : SdivRounding) (a b : Word) :
    (divOp m a b).value = if b = 0 then 0 else BitVec.ofInt 32 (signedQuotient m a.toInt b.toInt) := rfl

theorem modOp_value (m : SdivRounding) (a b : Word) :
    (modOp m a b).value = if b = 0 then 0 else BitVec.ofInt 32 (signedRemainder m a.toInt b.toInt) := rfl

theorem divuOp_value (a b : Word) :
    (divuOp a b).value = if b = 0 then 0 else BitVec.ofNat 32 (a.toNat / b.toNat) := rfl

theorem moduOp_value (a b : Word) :
    (moduOp a b).value = if b = 0 then 0 else BitVec.ofNat 32 (a.toNat % b.toNat) := rfl

theorem divOp_computes (m : SdivRounding) :
    Computes (divOp m)
      (fun a b => if b = 0 then 0 else if m = .floor then BitVec.ofInt 32 (Int.fdiv a.toInt b.toInt)
        else BitVec.ofInt 32 (Int.tdiv a.toInt b.toInt))
      (fun _ b => decide (b = 0)) (fun a b => decide (a = 0x80000000 ∧ b = 0xFFFFFFFF)) where
  value_eq a b := by cases m <;> rfl
  carry_eq _ _ := rfl
  overflow_eq a b := (Bool.decide_and ..).symm

theorem modOp_computes (m : SdivRounding) :
    Computes (modOp m)
      (fun a b => if b = 0 then 0 else if m = .floor then BitVec.ofInt 32 (Int.fmod a.toInt b.toInt)
        else BitVec.ofInt 32 (Int.tmod a.toInt b.toInt))
      (fun _ b => decide (b = 0)) (fun _ _ => false) where
  value_eq a b := by
    rw [modOp_value]
    cases m with
    | truncate => rw [signedRemainder_truncate]; rfl
    | floor => rw [signedRemainder_floor]; rfl
  carry_eq _ _ := rfl
  overflow_eq _ _ := rfl

theorem divuOp_computes :
    Computes divuOp (fun a b => if b = 0 then 0 else BitVec.ofNat 32 (a.toNat / b.toNat)) (fun _ b => decide (b = 0))
      (fun _ _ => false) where
  value_eq := divuOp_value
  carry_eq _ _ := rfl
  overflow_eq _ _ := rfl

theorem moduOp_computes :
    Computes moduOp (fun a b => if b = 0 then 0 else BitVec.ofNat 32 (a.toNat % b.toNat)) (fun _ b => decide (b = 0))
      (fun _ _ => false) where
  value_eq := moduOp_value
  carry_eq _ _ := rfl
  overflow_eq _ _ := rfl

/-! ## The forms (spec/41_arith_muldiv.md R152 to R192) -/

/-- Settles O6: the forms of `mulOp_computes`. -/
theorem mulForms : Obligations.MulForms := fun rd ra rb imm s =>
  (mulOp_computes s.cfg.mulFlagProduct).forms rd (s.reg ra) (s.reg rb) (sext imm) s

/-- Settles O7: the forms of `mulhOp_computes` and `mulhuOp_computes`. -/
theorem mulHighForms : Obligations.MulHighForms := fun rd ra rb imm s =>
  ⟨mulhOp_computes.forms rd (s.reg ra) (s.reg rb) (sext imm) s,
    mulhuOp_computes.forms rd (s.reg ra) (s.reg rb) (zext imm) s⟩

/-- Settles O8: the forms of `mulfxOp_computes`, with the immediate as `fx16_eq_ofInt` gives it. -/
theorem mulFixedForms : Obligations.MulFixedForms := by
  intro rd ra rb imm s
  rw [← fx16_eq_ofInt]
  exact mulfxOp_computes.forms rd (s.reg ra) (s.reg rb) (fx16 imm) s

/-- Settles O9: the forms of `divOp_computes`. -/
theorem signedDivideForms : Obligations.SignedDivideForms := fun rd ra rb imm s =>
  (divOp_computes s.cfg.sdivRounding).forms rd (s.reg ra) (s.reg rb) (sext imm) s

/-- Settles O10: the forms of `modOp_computes`. -/
theorem signedModuloForms : Obligations.SignedModuloForms := fun rd ra rb imm s =>
  (modOp_computes s.cfg.sdivRounding).forms rd (s.reg ra) (s.reg rb) (sext imm) s

/-- Settles O11: the forms of `divuOp_computes` and `moduOp_computes`. -/
theorem unsignedDivideForms : Obligations.UnsignedDivideForms := fun rd ra rb imm s =>
  ⟨divuOp_computes.forms rd (s.reg ra) (s.reg rb) (zext imm) s,
    moduOp_computes.forms rd (s.reg ra) (s.reg rb) (zext imm) s⟩

/-! ## Quotient and remainder (spec/41_arith_muldiv.md R172) -/

theorem signedQuotient_mul_add_signedRemainder (m : SdivRounding) (a b : Int) :
    signedQuotient m a b * b + signedRemainder m a b = a := by
  rw [signedRemainder, add_sub_cancel]

theorem natAbs_signedQuotient_le (m : SdivRounding) (a b : Int) : (signedQuotient m a b).natAbs ≤ a.natAbs := by
  cases m with
  | truncate => exact Int.natAbs_tdiv_le_natAbs a b
  | floor => exact Int.natAbs_fdiv_le_natAbs a b

/-- The floor remainder lies between 0 and the divisor, on the divisor's side. -/
theorem fmod_between (a : Int) {b : Int} (hb : b ≠ 0) :
    0 ≤ a.fmod b ∧ a.fmod b < b ∨ a.fmod b ≤ 0 ∧ b < a.fmod b := by
  obtain hneg | hpos := lt_or_gt_of_ne hb
  · have hnonneg := Int.fmod_nonneg_of_pos (-a) (neg_pos.mpr hneg)
    have hlt := Int.fmod_lt_of_pos (-a) (neg_pos.mpr hneg)
    rw [Int.neg_fmod_neg] at hnonneg hlt
    exact .inr ⟨by omega, by omega⟩
  · exact .inl ⟨Int.fmod_nonneg_of_pos a hpos, Int.fmod_lt_of_pos a hpos⟩

theorem natAbs_signedRemainder_lt (m : SdivRounding) (a : Int) {b : Int} (hb : b ≠ 0) :
    (signedRemainder m a b).natAbs < b.natAbs := by
  cases m with
  | truncate =>
    rw [signedRemainder_truncate, Int.natAbs_tmod]
    exact Nat.mod_lt _ (Int.natAbs_pos.mpr hb)
  | floor =>
    rw [signedRemainder_floor]
    have hbetween := fmod_between a hb
    omega

/-- The truncated remainder has the sign of the dividend. -/
theorem signedRemainder_truncate_mul_nonneg (a b : Int) : 0 ≤ signedRemainder .truncate a b * a := by
  rw [signedRemainder_truncate, ← Int.sign_nonneg_iff, Int.sign_mul, Int.sign_tmod]
  split
  · rw [zero_mul]
  · exact mul_self_nonneg _

/-- The floor remainder has the sign of the divisor. -/
theorem signedRemainder_floor_mul_nonneg (a : Int) {b : Int} (hb : b ≠ 0) : 0 ≤ signedRemainder .floor a b * b := by
  rw [signedRemainder_floor]
  obtain ⟨hnonneg, hlt⟩ | ⟨hnonpos, hlt⟩ := fmod_between a hb
  · exact mul_nonneg hnonneg (hnonneg.trans hlt.le)
  · exact mul_nonneg_of_nonpos_of_nonpos hnonpos (hlt.le.trans hnonpos)

section
variable {a b : Word}

theorem toInt_ne_zero (hb : b ≠ 0) : b.toInt ≠ 0 :=
  BitVec.toInt_ne.mpr hb

/-- The one quotient of two words that is no word is 2^31, of -2^31 by -1. -/
theorem signedQuotient_lt (m : SdivRounding) (hb : b ≠ 0) (hover : ¬ (a = 0x80000000 ∧ b = 0xFFFFFFFF)) :
    signedQuotient m a.toInt b.toInt < 2 ^ 31 := by
  have hle := natAbs_signedQuotient_le m a.toInt b.toInt
  have hdiv := signedQuotient_mul_add_signedRemainder m a.toInt b.toInt
  have hrem := natAbs_signedRemainder_lt m a.toInt (toInt_ne_zero hb)
  have ha := a.le_toInt
  have ha' := a.toInt_lt
  by_contra hge
  have hq : signedQuotient m a.toInt b.toInt = 2 ^ 31 := by omega
  have haMin : a.toInt = (0x80000000 : Word).toInt := by
    change a.toInt = -2 ^ 31
    omega
  have hbMinusOne : b.toInt = (0xFFFFFFFF : Word).toInt := by
    change b.toInt = -1
    rw [hq] at hdiv
    omega
  exact hover ⟨BitVec.toInt_inj.mp haMin, BitVec.toInt_inj.mp hbMinusOne⟩

/-- Without overflow DIV writes the exact quotient. -/
theorem toInt_divOp_value (m : SdivRounding) (hb : b ≠ 0) (hover : ¬ (a = 0x80000000 ∧ b = 0xFFFFFFFF)) :
    (divOp m a b).value.toInt = signedQuotient m a.toInt b.toInt := by
  have hle := natAbs_signedQuotient_le m a.toInt b.toInt
  have ha := a.le_toInt
  have ha' := a.toInt_lt
  rw [divOp_value, if_neg hb]
  exact BitVec.toInt_ofInt_eq_self (by decide) (by omega) (signedQuotient_lt m hb hover)

/-- MOD writes the exact remainder. -/
theorem toInt_modOp_value (m : SdivRounding) (hb : b ≠ 0) :
    (modOp m a b).value.toInt = signedRemainder m a.toInt b.toInt := by
  have hrem := natAbs_signedRemainder_lt m a.toInt (toInt_ne_zero hb)
  have hb' := b.le_toInt
  have hb'' := b.toInt_lt
  rw [modOp_value, if_neg hb]
  exact BitVec.toInt_ofInt_eq_self (by decide) (by omega) (by omega)

theorem toNat_divuOp_value (hb : b ≠ 0) : (divuOp a b).value.toNat = a.toNat / b.toNat := by
  rw [divuOp_value, if_neg hb, BitVec.toNat_ofNat]
  exact Nat.mod_eq_of_lt ((Nat.div_le_self _ _).trans_lt a.isLt)

theorem toNat_moduOp_value (hb : b ≠ 0) : (moduOp a b).value.toNat = a.toNat % b.toNat := by
  rw [moduOp_value, if_neg hb, BitVec.toNat_ofNat]
  exact Nat.mod_eq_of_lt ((Nat.mod_le _ _).trans_lt a.isLt)

end

/-- Settles O54: what is written is the exact quotient and remainder, but for the overflow and a divisor of 0. -/
theorem quotientAndRemainderAgree : Obligations.QuotientAndRemainderAgree := by
  refine fun m a b => ⟨fun hb hover => ?signed, ?overflow, fun hb => ?unsigned, ⟨rfl, rfl, rfl, rfl⟩⟩
  case signed =>
    rw [toInt_divOp_value m hb hover, toInt_modOp_value m hb]
    refine ⟨(signedQuotient_mul_add_signedRemainder m _ _).symm, natAbs_signedRemainder_lt m _ (toInt_ne_zero hb),
      ?_, ?_⟩
    · rintro rfl
      exact signedRemainder_truncate_mul_nonneg _ _
    · rintro rfl
      exact signedRemainder_floor_mul_nonneg _ (toInt_ne_zero hb)
  case overflow => cases m <;> decide
  case unsigned =>
    rw [toNat_divuOp_value hb, toNat_moduOp_value hb]
    have hpos : 0 < b.toNat := Nat.pos_of_ne_zero fun h => hb (BitVec.toNat_inj.mp h)
    exact ⟨(Nat.div_add_mod' _ _).symm, Nat.mod_lt _ hpos⟩

end Sys2Proof.Machine

/-!
PROOFS. The shift and rotate family (spec/42_shift.md). Each of the five operations is stated once as a `ShiftsAs`: its
value and its last bit out as functions of the operand and the amount. The four forms follow through `Computes.forms`,
and the refinement to one-position shifts from what one position more does to that value. Settles O12, O13, O14, O15,
O16 and O56.
-/

namespace Sys2Proof.Machine

/-! ## The amount and C after a shift by 0 (spec/42_shift.md R200, R201, R202) -/

theorem shiftAmount_eq_ite (cfg : Config) (b : Word) :
    shiftAmount cfg b = if cfg.shiftOver31 = .low5 then b.toNat % 32 else b.toNat := by
  unfold shiftAmount
  cases cfg.shiftOver31 with
  | iterate => rfl
  | low5 => rw [BitVec.extractLsb'_toNat, Nat.shiftRight_zero]; rfl

theorem zeroShiftCarry_eq_ite (cfg : Config) (cin : Bool) :
    zeroShiftCarry cfg cin = if cfg.shiftZeroCarry = .unchanged then cin else false := by
  unfold zeroShiftCarry
  cases cfg.shiftZeroCarry <;> rfl

/-! ## A shift as a function of its amount -/

/-- A shift or rotate by n: it writes `value a n`, and C is `lastOut a n` unless n = 0, where R201 says it. -/
def ShiftsAs (op : Config → Word → Word → Bool → AluOut) (value : Word → Nat → Word) (lastOut : Word → Nat → Bool) :
    Prop :=
  ∀ cfg a b cin, op cfg a b cin =
    ⟨value a (shiftAmount cfg b),
      if shiftAmount cfg b = 0 then zeroShiftCarry cfg cin else lastOut a (shiftAmount cfg b), false⟩

/-- The value of a shift by n + 1 is `one` of the value by n, and its last bit out is bit `out` of the value by n. -/
structure OneAtATime (value : Word → Nat → Word) (lastOut : Word → Nat → Bool) (one : Word → Word) (out : Nat) :
    Prop where
  value_zero : ∀ a, value a 0 = a
  value_succ : ∀ a n, value a (n + 1) = one (value a n)
  lastOut_succ : ∀ a n, lastOut a (n + 1) = (value a n).getLsbD out

theorem OneAtATime.value_eq_iterate {value : Word → Nat → Word} {lastOut : Word → Nat → Bool} {one : Word → Word}
    {out : Nat} (h : OneAtATime value lastOut one out) (a : Word) (n : Nat) : value a n = one^[n] a := by
  induction n with
  | zero => exact h.value_zero a
  | succ n ih => rw [h.value_succ, ih, Function.iterate_succ_apply']

section
variable {op : Config → Word → Word → Bool → AluOut} {value : Word → Nat → Word} {lastOut : Word → Nat → Bool}

/-- The operation under one configuration and carry-in, with the parameters written out. -/
theorem ShiftsAs.computes (h : ShiftsAs op value lastOut) (cfg : Config) (cin : Bool) :
    let n : Word → Nat := fun b => if cfg.shiftOver31 = .low5 then b.toNat % 32 else b.toNat
    let c0 : Bool := if cfg.shiftZeroCarry = .unchanged then cin else false
    Computes (fun a b => op cfg a b cin) (fun a b => value a (n b))
      (fun a b => if n b = 0 then c0 else lastOut a (n b)) (fun _ _ => false) where
  value_eq a b := by rw [h, shiftAmount_eq_ite]
  carry_eq a b := by rw [h, shiftAmount_eq_ite, zeroShiftCarry_eq_ite]
  overflow_eq a b := by rw [h]

/-- Under `iterate` the value is that of one-position shifts, and C the bit the last of them moves out (R202). -/
theorem ShiftsAs.iterate (h : ShiftsAs op value lastOut) {one : Word → Word} {out : Nat}
    (hone : OneAtATime value lastOut one out) (cfg : Config) (a b : Word) (cin : Bool) :
    let it : Config := { cfg with shiftOver31 := .iterate }
    (op it a b cin).value = one^[b.toNat] a ∧
      (0 < b.toNat → (op it a b cin).carry = (one^[b.toNat - 1] a).getLsbD out) := by
  intro it
  have hamount : shiftAmount it b = b.toNat := rfl
  rw [h, hamount]
  refine ⟨hone.value_eq_iterate a _, fun hpos => ?_⟩
  obtain ⟨n, hn⟩ := Nat.exists_eq_add_one.mpr hpos
  rw [hn, Nat.add_sub_cancel, ← hone.value_eq_iterate, ← hone.lastOut_succ, if_neg n.succ_ne_zero]

/-- Under `low5` the amount is the number that the low five bits are (R202). -/
theorem ShiftsAs.low5 (h : ShiftsAs op value lastOut) (cfg : Config) (a b : Word) (cin : Bool) :
    op { cfg with shiftOver31 := .low5 } a b cin =
      op { cfg with shiftOver31 := .iterate } a (BitVec.ofNat 32 (b.toNat % 32)) cin := by
  have hamount : shiftAmount { cfg with shiftOver31 := .low5 } b =
      shiftAmount { cfg with shiftOver31 := .iterate } (BitVec.ofNat 32 (b.toNat % 32)) := by
    rw [shiftAmount_eq_ite, shiftAmount_eq_ite, BitVec.toNat_ofNat]
    simp only [if_true, reduceCtorEq, if_false]
    omega
  rw [h, h, hamount]
  rfl

/-- Where 32 positions are none, both readings of the amount give the same value. -/
theorem ShiftsAs.value_low5 (h : ShiftsAs op value lastOut) (hmod : ∀ a n, value a (n % 32) = value a n)
    (cfg : Config) (a b : Word) (cin : Bool) :
    (op { cfg with shiftOver31 := .low5 } a b cin).value =
      (op { cfg with shiftOver31 := .iterate } a b cin).value := by
  rw [h, h, shiftAmount_eq_ite]
  exact hmod a b.toNat

end

/-! ## ShlOp (spec/42_shift.md R203) -/

theorem shiftLeft_eq_ofNat (a : Word) (n : Nat) : a <<< n = BitVec.ofNat 32 (a.toNat * 2 ^ n) := by
  apply BitVec.eq_of_toNat_eq
  rw [BitVec.toNat_shiftLeft, BitVec.toNat_ofNat, Nat.shiftLeft_eq]

theorem shlOp_shiftsAs :
    ShiftsAs shlOp (fun a n => BitVec.ofNat 32 (a.toNat * 2 ^ n))
      (fun a n => decide (n ≤ 32) && a.getLsbD (32 - n)) := by
  intro cfg a b cin
  simp only [shlOp, ← shiftLeft_eq_ofNat]
  generalize shiftAmount cfg b = n
  split
  case isTrue hzero => simp [hzero]
  split
  case isTrue hlt => simp [hlt.le]
  case isFalse hge =>
    have hle : 32 ≤ n := Nat.le_of_not_lt hge
    obtain rfl | hgt := hle.eq_or_lt
    · simp [BitVec.shiftLeft_eq_zero]
    · simp [BitVec.shiftLeft_eq_zero hle, hgt.ne', hgt.not_ge]

theorem shl_oneAtATime :
    OneAtATime (fun a n => BitVec.ofNat 32 (a.toNat * 2 ^ n)) (fun a n => decide (n ≤ 32) && a.getLsbD (32 - n))
      (fun x => x <<< 1) 31 where
  value_zero a := by rw [← shiftLeft_eq_ofNat, BitVec.shiftLeft_zero]
  value_succ a n := by rw [← shiftLeft_eq_ofNat, ← shiftLeft_eq_ofNat, BitVec.shiftLeft_add]
  lastOut_succ a n := by
    rw [← shiftLeft_eq_ofNat, BitVec.getLsbD_shiftLeft, Nat.sub_add_eq, Nat.sub_right_comm, ← decide_not]
    congr 1
    simp [Nat.lt_succ_iff]

/-! ## AsrOp (spec/42_shift.md R208) -/

theorem sshiftRight_eq_ofInt (a : Word) (n : Nat) : a.sshiftRight n = BitVec.ofInt 32 (a.toInt / 2 ^ n) := by
  rw [BitVec.sshiftRight, Int.shiftRight_eq_div_pow, Nat.cast_pow]
  rfl

theorem getLsbD_sshiftRight_low (a : Word) (n i : Nat) (hi : i < 32) :
    (a.sshiftRight n).getLsbD i = a.getLsbD (min (n + i) 31) := by
  rw [BitVec.getLsbD_sshiftRight]
  by_cases hin : n + i < 32
  · simp [hi, hin, Nat.le_of_lt_succ hin]
  · simp [hi, hin, show 31 ≤ n + i by omega, BitVec.msb_eq_getLsbD_last]

theorem getLsbD_repeatBit (n : Nat) (b : Bool) (i : Nat) : (repeatBit n b).getLsbD i = (decide (i < n) && b) := by
  cases b <;> simp [repeatBit]

/-- From 32 positions on, every bit is a copy of bit 31. -/
theorem sshiftRight_eq_repeatBit (a : Word) {n : Nat} (hn : 32 ≤ n) :
    a.sshiftRight n = repeatBit 32 (a.getLsbD 31) := by
  apply BitVec.eq_of_getLsbD_eq
  intro i hi
  rw [getLsbD_sshiftRight_low a n i hi, getLsbD_repeatBit, min_eq_right (by omega), decide_eq_true hi, Bool.true_and]

theorem asrOp_shiftsAs :
    ShiftsAs asrOp (fun a n => BitVec.ofInt 32 (a.toInt / 2 ^ n)) (fun a n => a.getLsbD (min (n - 1) 31)) := by
  intro cfg a b cin
  simp only [asrOp, ← sshiftRight_eq_ofInt]
  generalize shiftAmount cfg b = n
  split
  case isTrue hzero => simp [hzero]
  split
  case isTrue hlt => rw [min_eq_left (by omega)]
  case isFalse hge => rw [min_eq_right (by omega), sshiftRight_eq_repeatBit a (Nat.le_of_not_lt hge)]

theorem asr_oneAtATime :
    OneAtATime (fun a n => BitVec.ofInt 32 (a.toInt / 2 ^ n)) (fun a n => a.getLsbD (min (n - 1) 31))
      (fun x => x.sshiftRight 1) 0 where
  value_zero a := by rw [← sshiftRight_eq_ofInt, BitVec.sshiftRight_zero]
  value_succ a n := by rw [← sshiftRight_eq_ofInt, ← sshiftRight_eq_ofInt, BitVec.sshiftRight_add]
  lastOut_succ a n := by rw [← sshiftRight_eq_ofInt, getLsbD_sshiftRight_low a n 0 (by decide)]; rfl

/-! ## LsrOp (spec/42_shift.md R213) -/

theorem ushiftRight_eq_ofNat (a : Word) (n : Nat) : a >>> n = BitVec.ofNat 32 (a.toNat / 2 ^ n) := by
  apply BitVec.eq_of_toNat_eq
  rw [BitVec.toNat_ushiftRight, BitVec.toNat_ofNat, Nat.shiftRight_eq_div_pow,
    Nat.mod_eq_of_lt ((Nat.div_le_self _ _).trans_lt a.isLt)]

theorem lsrOp_shiftsAs :
    ShiftsAs lsrOp (fun a n => BitVec.ofNat 32 (a.toNat / 2 ^ n)) (fun a n => a.getLsbD (n - 1)) := by
  intro cfg a b cin
  simp only [lsrOp, ← ushiftRight_eq_ofNat]
  generalize shiftAmount cfg b = n
  split
  case isTrue hzero => simp [hzero]
  split
  case isTrue hlt => rfl
  case isFalse hge =>
    have hle : 32 ≤ n := Nat.le_of_not_lt hge
    obtain rfl | hgt := hle.eq_or_lt
    · simp [BitVec.ushiftRight_eq_zero]
    · simp [BitVec.ushiftRight_eq_zero hle, hgt.ne', a.getLsbD_of_ge (n - 1) (by omega)]

theorem lsr_oneAtATime :
    OneAtATime (fun a n => BitVec.ofNat 32 (a.toNat / 2 ^ n)) (fun a n => a.getLsbD (n - 1)) (fun x => x >>> 1) 0 where
  value_zero a := by rw [← ushiftRight_eq_ofNat, BitVec.ushiftRight_zero]
  value_succ a n := by rw [← ushiftRight_eq_ofNat, ← ushiftRight_eq_ofNat, BitVec.shiftRight_add]
  lastOut_succ a n := by rw [← ushiftRight_eq_ofNat, BitVec.getLsbD_ushiftRight]; rfl

/-! ## RolOp and RorOp (spec/42_shift.md R218, R223) -/

theorem rotateLeftBy_mod (a : Word) (n : Nat) : rotateLeftBy a (n % 32) = a.rotateLeft n := by
  rw [rotateLeftBy, BitVec.rotateLeft_def]
  split
  case isTrue hzero => simp [hzero, BitVec.ushiftRight_eq_zero]
  case isFalse => rfl

theorem rotateRightBy_mod (a : Word) (n : Nat) : rotateRightBy a (n % 32) = a.rotateRight n := by
  rw [rotateRightBy, BitVec.rotateRight_def]
  split
  case isTrue hzero => simp [hzero, BitVec.shiftLeft_eq_zero]
  case isFalse => rfl

/-- A right rotation by n brings bit (i + n) mod 32 to bit i. -/
theorem getLsbD_rotateRight_mod (a : Word) (n i : Nat) (hi : i < 32) :
    (a.rotateRight n).getLsbD i = a.getLsbD ((i + n) % 32) := by
  rw [BitVec.getLsbD_rotateRight]
  by_cases hwrap : i < 32 - n % 32
  · simp only [hwrap, decide_true, cond_true]
    congr 1
    omega
  · simp only [hwrap, hi, decide_true, decide_false, cond_false, Bool.true_and]
    congr 1
    omega

theorem rotateRight_add (a : Word) (m n : Nat) : a.rotateRight (m + n) = (a.rotateRight m).rotateRight n := by
  apply BitVec.eq_of_getLsbD_eq
  intro i hi
  rw [getLsbD_rotateRight_mod _ _ _ hi, getLsbD_rotateRight_mod _ _ _ hi,
    getLsbD_rotateRight_mod _ _ _ (Nat.mod_lt _ (by decide))]
  congr 1
  omega

/-- One position to the left is 31 to the right, so that the facts about right rotations serve both. -/
theorem rotateLeft_eq_rotateRight (a : Word) (n : Nat) : a.rotateLeft n = a.rotateRight (31 * n) := by
  apply BitVec.eq_of_getLsbD_eq
  intro i hi
  rw [getLsbD_rotateRight_mod _ _ _ hi, BitVec.getLsbD_rotateLeft]
  by_cases hwrap : i < n % 32
  · simp only [hwrap, decide_true, cond_true]
    congr 1
    omega
  · simp only [hwrap, hi, decide_true, decide_false, cond_false, Bool.true_and]
    congr 1
    omega

theorem rotateLeft_add (a : Word) (m n : Nat) : a.rotateLeft (m + n) = (a.rotateLeft m).rotateLeft n := by
  simp only [rotateLeft_eq_rotateRight, Nat.mul_add, rotateRight_add]

theorem rolOp_shiftsAs : ShiftsAs rolOp BitVec.rotateLeft (fun a n => (a.rotateLeft n).getLsbD 0) := by
  intro cfg a b cin
  simp only [rolOp, rotateLeftBy_mod]

theorem rorOp_shiftsAs : ShiftsAs rorOp BitVec.rotateRight (fun a n => (a.rotateRight n).getLsbD 31) := by
  intro cfg a b cin
  simp only [rorOp, rotateRightBy_mod]

/-- The bit that arrives at bit 31 of a right rotation was bit 0 one position before. -/
theorem ror_oneAtATime :
    OneAtATime BitVec.rotateRight (fun a n => (a.rotateRight n).getLsbD 31) (fun x => x.rotateRight 1) 0 where
  value_zero a := by rw [← rotateRightBy_mod]; rfl
  value_succ a n := rotateRight_add a n 1
  lastOut_succ a n := by rw [rotateRight_add, getLsbD_rotateRight_mod _ _ _ (by decide)]

/-- The bit that arrives at bit 0 of a left rotation was bit 31 one position before. -/
theorem rol_oneAtATime :
    OneAtATime BitVec.rotateLeft (fun a n => (a.rotateLeft n).getLsbD 0) (fun x => x.rotateLeft 1) 31 where
  value_zero a := by rw [← rotateLeftBy_mod]; rfl
  value_succ a n := rotateLeft_add a n 1
  lastOut_succ a n := by
    rw [rotateLeft_add, rotateLeft_eq_rotateRight _ 1, getLsbD_rotateRight_mod _ _ _ (by decide)]

/-! ## The forms (spec/42_shift.md R204 to R227) -/

/-- Settles O12: the forms of `shlOp_shiftsAs`. -/
theorem shiftLeftForms : Obligations.ShiftLeftForms := fun rd ra rb imm s =>
  (shlOp_shiftsAs.computes s.cfg s.flags.c).forms rd (s.reg ra) (s.reg rb) (zext imm) s

/-- Settles O13: the forms of `asrOp_shiftsAs`. -/
theorem arithShiftRightForms : Obligations.ArithShiftRightForms := fun rd ra rb imm s =>
  (asrOp_shiftsAs.computes s.cfg s.flags.c).forms rd (s.reg ra) (s.reg rb) (zext imm) s

/-- Settles O14: the forms of `lsrOp_shiftsAs`. -/
theorem logicShiftRightForms : Obligations.LogicShiftRightForms := fun rd ra rb imm s =>
  (lsrOp_shiftsAs.computes s.cfg s.flags.c).forms rd (s.reg ra) (s.reg rb) (zext imm) s

/-- Settles O15: the forms of `rolOp_shiftsAs`. -/
theorem rotateLeftForms : Obligations.RotateLeftForms := fun rd ra rb imm s =>
  (rolOp_shiftsAs.computes s.cfg s.flags.c).forms rd (s.reg ra) (s.reg rb) (zext imm) s

/-- Settles O16: the forms of `rorOp_shiftsAs`. -/
theorem rotateRightForms : Obligations.RotateRightForms := fun rd ra rb imm s =>
  (rorOp_shiftsAs.computes s.cfg s.flags.c).forms rd (s.reg ra) (s.reg rb) (zext imm) s

/-! ## One position at a time (spec/42_shift.md R202) -/

/-- Settles O56: each operation adds one position as its `OneAtATime` says, and reads the configuration through the
amount and R201 only. -/
theorem shiftsIterateOnePositionShifts : Obligations.ShiftsIterateOnePositionShifts := fun cfg a b cin =>
  ⟨shlOp_shiftsAs.iterate shl_oneAtATime cfg a b cin, lsrOp_shiftsAs.iterate lsr_oneAtATime cfg a b cin,
    asrOp_shiftsAs.iterate asr_oneAtATime cfg a b cin, rolOp_shiftsAs.iterate rol_oneAtATime cfg a b cin,
    rorOp_shiftsAs.iterate ror_oneAtATime cfg a b cin,
    ⟨shlOp_shiftsAs.low5 cfg a b cin, asrOp_shiftsAs.low5 cfg a b cin, lsrOp_shiftsAs.low5 cfg a b cin,
      rolOp_shiftsAs.low5 cfg a b cin, rorOp_shiftsAs.low5 cfg a b cin⟩,
    rolOp_shiftsAs.value_low5 (fun _ _ => BitVec.rotateLeft_mod_eq_rotateLeft) cfg a b cin,
    rorOp_shiftsAs.value_low5 (fun _ _ => BitVec.rotateRight_mod_eq_rotateRight) cfg a b cin⟩

end Sys2Proof.Machine

/-!
PROOFS. The logic family (spec/43_logic.md). AND, OR and XOR are bitwise operations and NOT is a difference, so that each
is a `Computes` and its four forms are those of `Computes.forms`; what the conditions read after BCHKS is that AND is 0
where no bit is tested. Settles O19, O17 and O18.
-/

namespace Sys2Proof.Machine

/-! ## AndOp, OrOp and XorOp (spec/43_logic.md R240, R241, R246, R251) -/

/-- An operation that answers on each bit by itself, and clears C and V. -/
theorem Computes.of_bitwise {op : Word → Word → AluOut} {onBit : Bool → Bool → Bool}
    (hvalue : ∀ a b i, i < 32 → (op a b).value.getLsbD i = onBit (a.getLsbD i) (b.getLsbD i))
    (hcarry : ∀ a b, (op a b).carry = false) (hoverflow : ∀ a b, (op a b).overflow = false) :
    Computes op (fun a b => BitVec.ofFnLE fun i : Fin 32 => onBit (a.getLsbD i) (b.getLsbD i)) (fun _ _ => false)
      (fun _ _ => false) where
  value_eq a b := BitVec.eq_of_getLsbD_eq fun i hi => by rw [hvalue a b i hi, BitVec.getLsbD_ofFnLE, dif_pos hi]
  carry_eq := hcarry
  overflow_eq := hoverflow

theorem andOp_computes :
    Computes andOp (fun a b => BitVec.ofFnLE fun i : Fin 32 => and (a.getLsbD i) (b.getLsbD i)) (fun _ _ => false)
      (fun _ _ => false) :=
  .of_bitwise (fun _ _ _ _ => BitVec.getLsbD_and) (fun _ _ => rfl) (fun _ _ => rfl)

theorem orOp_computes :
    Computes orOp (fun a b => BitVec.ofFnLE fun i : Fin 32 => or (a.getLsbD i) (b.getLsbD i)) (fun _ _ => false)
      (fun _ _ => false) :=
  .of_bitwise (fun _ _ _ _ => BitVec.getLsbD_or) (fun _ _ => rfl) (fun _ _ => rfl)

theorem xorOp_computes :
    Computes xorOp (fun a b => BitVec.ofFnLE fun i : Fin 32 => xor (a.getLsbD i) (b.getLsbD i)) (fun _ _ => false)
      (fun _ _ => false) :=
  .of_bitwise (fun _ _ _ _ => BitVec.getLsbD_xor) (fun _ _ => rfl) (fun _ _ => rfl)

/-! ## NotOp (spec/43_logic.md R256) -/

theorem notOp_value (b : Word) : (notOp b).value = BitVec.ofNat 32 (0xFFFFFFFF - b.toNat) := by
  apply BitVec.eq_of_toNat_eq
  rw [notOp, BitVec.toNat_not, BitVec.toNat_ofNat]
  omega

/-- NotOp is the operation on two operands that does not look at the first. -/
theorem notOp_computes :
    Computes (fun _ b => notOp b) (fun _ b => BitVec.ofNat 32 (0xFFFFFFFF - b.toNat)) (fun _ _ => false)
      (fun _ _ => false) where
  value_eq _ b := notOp_value b
  carry_eq _ _ := rfl
  overflow_eq _ _ := rfl

/-- A 20-bit immediate leaves bit 31 clear, so that its complement is the negative number it stands for. -/
theorem toInt_complement_imm20 (imm : BitVec 20) :
    (BitVec.ofNat 32 (0xFFFFFFFF - (imm.setWidth 32).toNat)).toInt = -((imm.toNat : Int) + 1) := by
  have himm := imm.isLt
  rw [BitVec.toNat_setWidth_of_le (by decide), BitVec.toInt_eq_toNat_cond, BitVec.toNat_ofNat]
  omega

/-! ## The flags of a bit test (spec/43_logic.md R261) -/

/-- The flags of AndOp as O19 writes them. -/
theorem andOp_flags (a b : Word) :
    (andOp a b).flags = ⟨(a &&& b).getLsbD 31, decide (a &&& b = 0), false, false⟩ := by
  rw [AluOut.flags, zeroFlag_eq_decide]
  rfl

theorem and_eq_zero_iff_forall_getLsbD (a b : Word) :
    a &&& b = 0 ↔ ∀ i, i < 32 → (a.getLsbD i && b.getLsbD i) = false := by
  constructor
  · intro hand i _
    rw [← BitVec.getLsbD_and, hand]
    exact BitVec.getLsbD_zero
  · intro hbits
    refine BitVec.eq_of_getLsbD_eq fun i hi => ?_
    rw [BitVec.getLsbD_and, hbits i hi]
    exact BitVec.getLsbD_zero.symm

theorem and_ne_zero_iff_exists_getLsbD (a b : Word) :
    a &&& b ≠ 0 ↔ ∃ i, i < 32 ∧ (a.getLsbD i && b.getLsbD i) = true := by
  rw [Ne, and_eq_zero_iff_forall_getLsbD]
  push Not
  simp only [Bool.ne_false_iff]

/-! ## The forms (spec/43_logic.md R242 to R265) -/

/-- Settles O19: the forms are the shared discard and flag write of AndOp, whose Z says that no bit is tested, whose N is
bit 31, and whose C and V are clear. -/
theorem bitCheckForms : Obligations.BitCheckForms := by
  intro ra rb imm s f
  have hf : ∀ a b, (andOp a b).flags = f a b := andOp_flags
  refine ⟨(discard_next (andOp (s.reg ra) (s.reg rb)) s _).mpr rfl,
    (discard_next (andOp (s.reg ra) (zext imm)) s _).mpr rfl,
    (writeFlagsOnly_next (andOp (s.reg ra) (s.reg rb)) s _).mpr (by rw [hf]; rfl),
    (writeFlagsOnly_next (andOp (s.reg ra) (zext imm)) s _).mpr (by rw [hf]; rfl), fun a b j => ?_⟩
  have hz : (f a b).z = decide (a &&& b = 0) := rfl
  have hn : (f a b).n = (a.getLsbD 31 && b.getLsbD 31) := BitVec.getLsbD_and
  have hc : (f a b).c = false := rfl
  have hv : (f a b).v = false := rfl
  refine ⟨?eq, ?ne, hn, hc, ?hi, hv, ?cc, ?vc, ?lsOr, ?lsAnd⟩
  case eq => rw [Cond.holds, hz, decide_eq_true_eq, and_eq_zero_iff_forall_getLsbD]
  case ne => rw [Cond.holds, hz, ← decide_not, decide_eq_true_eq, ← and_ne_zero_iff_exists_getLsbD]
  case hi => rw [Cond.holds, hc, Bool.false_and]
  case cc => rw [Cond.holds, hc, Bool.not_false]
  case vc => rw [Cond.holds, hv, Bool.not_false]
  case lsOr => rw [Cond.holds, joinCond, hc, Bool.not_false, Bool.true_or]
  case lsAnd => rw [Cond.holds, joinCond, hc, Bool.not_false, Bool.true_and]

/-- Settles O17: the forms of `andOp_computes`, `orOp_computes` and `xorOp_computes`. -/
theorem logicForms : Obligations.LogicForms := fun rd ra rb imm s =>
  ⟨andOp_computes.forms rd (s.reg ra) (s.reg rb) (zext imm) s,
    orOp_computes.forms rd (s.reg ra) (s.reg rb) (zext imm) s,
    xorOp_computes.forms rd (s.reg ra) (s.reg rb) (zext imm) s⟩

/-- Settles O18: the forms of `notOp_computes`, where the first operand is any word; and the complement of an immediate
as a signed number. -/
theorem notForms : Obligations.NotForms := by
  intro rd rb imm s
  obtain ⟨hnot, hnoti, hnots, hnotis⟩ := notOp_computes.forms rd 0 (s.reg rb) (zext imm) s
  exact ⟨hnot, hnoti, hnots, hnotis, toInt_complement_imm20 imm⟩

end Sys2Proof.Machine

/-!
PROOFS. The loads and stores (spec/44_load_store.md). What a load writes to rD is said once for each width and
extension, what a store leaves once for every width, each at any effective address; the three modes of R280 are three
such addresses. Settles O23, O24, O25, O20, O21 and O22.
-/

namespace Sys2Proof.Machine

/-! ## A store (spec/44_load_store.md R282, spec/20_memory.md R44) -/

/-- A writable store puts the low bytes of x[rB] at its address, whatever the width. -/
theorem store_of_writable {s : State} {w : Width} {ea : Word} (rb : Reg) (h : writable s w ea) :
    ∃ t, store w rb ea s = .next t ∧ storeEffect s t ea w.bytes (s.reg rb) :=
  ⟨_, (store_next w rb ea s _).mpr ⟨h, rfl⟩, fun i => s.byteAt_pokeValue ea (s.reg rb) _ i w.bytes_le,
    fun a => s.byteAt_pokeValue_other ea a _ _, rfl, rfl, rfl, rfl⟩

/-! ## A load (spec/44_load_store.md R281, spec/20_memory.md R43, R60) -/

/-- The sign extension of R60 is the signed value of the bytes read. -/
theorem Extend.widen_sign (w : Width) (v : Nat) :
    Extend.sign.widen w v = BitVec.ofInt 32 (BitVec.ofNat (8 * w.bytes) v).toInt := rfl

section
variable {s : State} {ea : Word} (rd : Reg)

/-- An accessible load writes the widened value of the bytes at its address. -/
theorem load_of_accessible {w : Width} (e : Extend) (h : accessible s w ea) :
    load w e rd ea s = .next ((s.setReg rd (e.widen w (s.readValue ea w.bytes))).setPc (s.pc + 4)) :=
  (load_next w e rd ea s _).mpr ⟨h, rfl⟩

theorem load_word (h : accessible s .word ea) :
    load .word .zero rd ea s = .next ((s.setReg rd (BitVec.ofNat 32 (wordAt s ea))).setPc (s.pc + 4)) := by
  rw [load_of_accessible rd _ h, Width.bytes, State.readValue_four, Extend.widen]

theorem load_half_zero (h : accessible s .half ea) :
    load .half .zero rd ea s = .next ((s.setReg rd (BitVec.ofNat 32 (halfAt s ea))).setPc (s.pc + 4)) := by
  rw [load_of_accessible rd _ h, Width.bytes, State.readValue_two, Extend.widen]

theorem load_half_sign (h : accessible s .half ea) :
    load .half .sign rd ea s =
      .next ((s.setReg rd (BitVec.ofInt 32 (BitVec.ofNat 16 (halfAt s ea)).toInt)).setPc (s.pc + 4)) := by
  rw [load_of_accessible rd _ h, Extend.widen_sign, Width.bytes, State.readValue_two]

theorem load_byte_zero (h : accessible s .byte ea) :
    load .byte .zero rd ea s = .next ((s.setReg rd (BitVec.ofNat 32 (s.byteAt ea).toNat)).setPc (s.pc + 4)) := by
  rw [load_of_accessible rd _ h, Width.bytes, State.readValue_one, Extend.widen]

theorem load_byte_sign (h : accessible s .byte ea) :
    load .byte .sign rd ea s = .next ((s.setReg rd (BitVec.ofInt 32 (s.byteAt ea).toInt)).setPc (s.pc + 4)) := by
  have hbyte : BitVec.ofNat 8 (s.byteAt ea).toNat = s.byteAt ea := (BitVec.ofNat_toNat 8 _).trans (BitVec.setWidth_eq _)
  rw [load_of_accessible rd _ h, Extend.widen_sign, Width.bytes, State.readValue_one, hbyte]

end

/-! ## The forms: displacement, immediate and pc-relative mode (spec/44_load_store.md R280, R283 to R306) -/

/-- Settles O23: the three modes are stores of a word. -/
theorem storeWordForms : Obligations.StoreWordForms := fun rb _ _ _ _ =>
  ⟨store_of_writable rb, store_of_writable rb, store_of_writable rb⟩

/-- Settles O24: the three modes are stores of a byte. -/
theorem storeByteForms : Obligations.StoreByteForms := fun rb _ _ _ _ =>
  ⟨store_of_writable rb, store_of_writable rb, store_of_writable rb⟩

/-- Settles O25: the three modes are stores of a halfword. -/
theorem storeHalfForms : Obligations.StoreHalfForms := fun rb _ _ _ _ =>
  ⟨store_of_writable rb, store_of_writable rb, store_of_writable rb⟩

/-- Settles O20: the three modes are loads of a word, which fills rD. -/
theorem loadWordForms : Obligations.LoadWordForms := fun rd _ _ _ _ =>
  ⟨load_word rd, load_word rd, load_word rd⟩

/-- Settles O21: the three modes are loads of a byte, zero-extended in the first three forms and sign-extended in the
others. -/
theorem loadByteForms : Obligations.LoadByteForms := fun rd _ _ _ _ =>
  ⟨load_byte_zero rd, load_byte_zero rd, load_byte_zero rd, load_byte_sign rd, load_byte_sign rd, load_byte_sign rd⟩

/-- Settles O22: the three modes are loads of a halfword, zero-extended in the first three forms and sign-extended in
the others. -/
theorem loadHalfForms : Obligations.LoadHalfForms := fun rd _ _ _ _ =>
  ⟨load_half_zero rd, load_half_zero rd, load_half_zero rd, load_half_sign rd, load_half_sign rd, load_half_sign rd⟩

end Sys2Proof.Machine


/-!
PROOFS. The branches and jumps (spec/45_control.md). A branch is said once for every condition: where it goes and its
word; LS and LE are the two conditions that a parameter joins. Settles O26 and O27.
-/

namespace Sys2Proof.Machine

/-! ## The word of a branch (spec/30_encoding.md R80, R90; spec/45_control.md R320) -/

/-- The bits of F-B: the opcode 32, the offset from bit 4 up, and the condition in the four bits below it. -/
theorem encodeB_eq_or (imm : BitVec 22) (cond : BitVec 4) :
    encodeB imm cond = 0xC8000000 ||| imm.setWidth 32 <<< 4 ||| cond.setWidth 32 := by
  rw [encodeB, putField, putField, putField, BitVec.shiftLeft_zero]
  rfl

theorem decode_encodeB_reserved (imm : BitVec 22) : decode (encodeB imm 0xF) = .reservedEncoding :=
  decode_of_decodeForm_none (op := .b) (opcodeField_encodeB imm 0xF) (decodeForm_b_reserved (condField_encodeB imm 0xF))

/-! ## The conditions (spec/45_control.md R320) -/

theorem joinCond_eq_ite (j : CondLsLe) (p q : Bool) :
    joinCond j p q = if decide (j = .and) then p && q else p || q := by
  cases j <;> rfl

/-- Under OR, LS is the complement of HI. -/
theorem Cond.holds_or_ls (g : Flags) : Cond.holds .or g .ls = !Cond.holds .or g .hi := by
  rw [Cond.holds, Cond.holds, joinCond, Bool.not_and, Bool.not_not]

/-- Under OR, LE is the complement of GT. -/
theorem Cond.holds_or_le (g : Flags) : Cond.holds .or g .le = !Cond.holds .or g .gt := by
  rw [Cond.holds, Cond.holds, joinCond, Bool.not_and, Bool.not_not]
  rfl

/-! ## The forms (spec/45_control.md R321 to R344) -/

/-- A branch by condition `c`, which holds exactly if `b`: the state it leaves and its word. -/
theorem branch_form {i : Instr} {imm : BitVec 22} {s : State} {c : Cond} {b : Bool} (cond : BitVec 4)
    (hexec : exec i s = branch c (branchTarget imm s) s) (hholds : c.holds s.cfg.condLsLe s.flags = b)
    (hencode : encode i = encodeB imm cond) :
    exec i s = .next (s.setPc (if b = true then s.pc + imm.signExtend 32 else s.pc + 4)) ∧
      encode i = 0xC8000000 ||| imm.setWidth 32 <<< 4 ||| cond.setWidth 32 := by
  refine ⟨?_, hencode.trans (encodeB_eq_or imm cond)⟩
  rw [hexec, ← hholds]
  rfl

/-- Settles O26: each form is a branch by its own condition, and its word ends in the number of that condition. -/
theorem branchForms : Obligations.BranchForms := fun imm _ =>
  ⟨branch_form 0 rfl rfl rfl, branch_form 1 rfl rfl rfl, branch_form 2 rfl rfl rfl, branch_form 3 rfl rfl rfl,
    branch_form 4 rfl rfl rfl, branch_form 5 rfl rfl rfl, branch_form 6 rfl rfl rfl, branch_form 7 rfl rfl rfl,
    branch_form 8 rfl rfl rfl, branch_form 9 rfl (joinCond_eq_ite _ _ _) rfl, branch_form 10 rfl rfl rfl,
    branch_form 11 rfl rfl rfl, branch_form 12 rfl rfl rfl, branch_form 13 rfl (joinCond_eq_ite _ _ _) rfl,
    branch_form 14 rfl rfl rfl, (congrArg decode (encodeB_eq_or imm 0xF)).symm.trans (decode_encodeB_reserved imm),
    fun g => ⟨rfl, rfl, rfl, rfl, Cond.holds_or_ls g, rfl, Cond.holds_or_le g⟩⟩

/-- Settles O27: the target of each form is its zero-extended immediate, alone or added to the rA of the state before
rD is written. -/
theorem jumpForms : Obligations.JumpForms := by
  intro rd ra imm16 imm20 imm24 s
  simp only [BitVec.ofNat_toNat]
  exact ⟨(jump_next (registerTarget ra imm16 s) s _).mpr rfl, (jump_next (zext imm24) s _).mpr rfl,
    (jumpLink_next rd (registerTarget ra imm16 s) s _).mpr rfl, (jumpLink_next rd (zext imm20) s _).mpr rfl⟩

end Sys2Proof.Machine

/-!
PROOFS. The faults (spec/60_exceptions.md). Each stage of a step says once which fault it answers and when: the fetch,
the decoding, the access. The order of R375 is then one rule per fault, and the faults a step can answer are one
inversion of `step`. Settles O49, O29 and O53.
-/

namespace Sys2Proof.Machine

/-! ## The accesses and whether an instruction completes (spec/60_exceptions.md R370, R371) -/

/-- An instruction with a load access is the load into some register from there. -/
theorem exec_of_loadAccess {s : State} {i : Instr} {w : Width} {ea : Word} (h : loadAccess s i = some (w, ea)) :
    ∃ e rd, exec i s = load w e rd ea s := by
  cases execForm i with
  | loads w' e rd ea' hexec _ _ _ hmem =>
    obtain ⟨rfl, rfl⟩ := Prod.mk.inj (Option.some.inj ((hmem s).1.symm.trans h))
    exact ⟨e, rd, hexec s⟩
  | writesReg _ _ _ _ _ _ hmem | writesRegFlags _ _ _ _ _ _ hmem | writesFlags _ _ _ _ _ hmem
  | advances _ _ _ _ hmem | stores _ _ _ _ _ _ _ hmem | branches _ _ _ _ _ _ hmem | jumps _ _ _ _ _ hmem
  | links _ _ _ _ _ _ hmem => simp [(hmem s).1] at h

/-- Every form but a load and a store answers a next state, whatever its operands. -/
theorem exec_next_of_no_access {s : State} {i : Instr} (hload : loadAccess s i = none)
    (hstore : storeAccess s i = none) : ∃ t, exec i s = .next t := by
  cases execForm i with
  | loads _ _ _ _ _ _ _ _ hmem => simp [(hmem s).1] at hload
  | stores _ _ _ _ _ _ _ hmem => simp [(hmem s).2] at hstore
  | writesReg _ _ hexec | writesRegFlags _ _ hexec | writesFlags _ hexec | advances hexec | branches _ _ hexec
  | jumps _ hexec | links _ _ hexec => exact ⟨_, hexec s⟩

/-- Settles O49: without an access there is no fault to answer, and a load or store answers a next state exactly when
no fault stops its access. -/
theorem definedInstructionsAreTotal : Obligations.DefinedInstructionsAreTotal := by
  refine fun i s => ⟨exec_next_of_no_access, fun w ea hload => ?_, fun w ea hstore => ?_⟩
  · obtain ⟨e, rd, hexec⟩ := exec_of_loadAccess hload
    simp [hexec, load_next]
  · obtain ⟨rb, hexec⟩ := exec_of_storeAccess hstore
    simp [hexec, store_next]

/-! ## The fault of a fetch (spec/20_memory.md R46, R48, R51; spec/70_reset_and_hazards.md R401) -/

/-- Some byte of the `n` at an address is not in `MEM_MAP` (R51). -/
def Unmapped (s : State) (a : Word) (n : Nat) : Prop := ∃ k, k < n ∧ s.mapped (a + BitVec.ofNat 32 k) = false

/-- An aligned fetch is not answered: a byte of it is unmapped, or pc is a `RESET_PC` outside the text. -/
def Unfetchable (s : State) : Prop := Unmapped s s.pc 4 ∨ (s.cfg.resetPc = some s.pc ∧ s.inText s.pc = false)

theorem State.allMapped_eq_false_iff (s : State) (a : Word) (n : Nat) : s.allMapped a n = false ↔ Unmapped s a n := by
  simp [State.allMapped, byteAddrs, Unmapped]

/-- The second check of `State.fetch`. -/
theorem unfetchable_iff (s : State) : Unfetchable s ↔ (!s.allMapped s.pc 4 || s.startsOutsideText) = true := by
  simp [Unfetchable, ← State.allMapped_eq_false_iff, State.startsOutsideText]

/-- A fetch faults as misaligned whenever it is, and else as unmapped if it is unfetchable (R375). -/
theorem State.fetch_eq_error_iff (s : State) (f : Fault) :
    s.fetch = .error f ↔
      (s.pc.toNat % 4 ≠ 0 ∧ f = .misalignedFetch s.pc) ∨
      (s.pc.toNat % 4 = 0 ∧ Unfetchable s ∧ f = .unmappedAccess s.pc s.pc) := by
  rw [unfetchable_iff, State.fetch]
  by_cases hpc : s.pc.toNat % 4 = 0 <;> cases !s.allMapped s.pc 4 || s.startsOutsideText <;> simp [hpc, eq_comm]

/-- An aligned fetch that is not unfetchable answers the word at pc. -/
theorem State.fetch_of_not_unfetchable {s : State} (hpc : s.pc.toNat % 4 = 0) (h : ¬ Unfetchable s) :
    s.fetch = .ok (BitVec.ofNat 32 (wordAt s s.pc)) := by
  obtain ⟨hmapped, htext⟩ : s.allMapped s.pc 4 = true ∧ s.startsOutsideText = false := by
    simpa [unfetchable_iff] using h
  exact s.fetch_eq_wordAt hpc ((s.allMapped_iff _ _).mp hmapped) htext

/-! ## The fault of an access (spec/60_exceptions.md R372, R375) -/

/-- An access is stopped exactly by the two faults of a read: a refused misalignment or an unmapped byte. -/
theorem accessible_iff (s : State) (w : Width) (a : Word) :
    accessible s w a ↔ ¬ (s.cfg.misalignedData = .refuse ∧ a.toNat % w.bytes ≠ 0) ∧ ¬ Unmapped s a w.bytes := by
  rw [← State.misaligned_eq_true_iff, ← State.allMapped_eq_false_iff, Bool.not_eq_true, Bool.not_eq_false,
    State.misaligned_eq_false_iff, State.allMapped_iff, accessible]

/-- What stops the read of an access stops the load or the store that makes it. -/
theorem exec_of_readFault {s : State} {i : Instr} {w : Width} {ea : Word} {f : Fault}
    (hacc : loadAccess s i = some (w, ea) ∨ storeAccess s i = some (w, ea)) (hf : s.readFault ea w = some f) :
    exec i s = .fault f := by
  obtain hload | hstore := hacc
  · obtain ⟨e, rd, hexec⟩ := exec_of_loadAccess hload
    rw [hexec, load_fault, hf]
  · obtain ⟨rb, hexec⟩ := exec_of_storeAccess hstore
    rw [hexec, store_fault, State.writeFault_eq_some_iff]
    exact .inl hf

theorem State.readFault_of_misaligned {s : State} {w : Width} {a : Word}
    (h : s.cfg.misalignedData = .refuse ∧ a.toNat % w.bytes ≠ 0) :
    s.readFault a w = some (.misalignedData s.pc a) :=
  (s.readFault_eq_some_iff a w _).mpr (.inl ⟨h.1, h.2, rfl⟩)

theorem State.readFault_of_unmapped {s : State} {w : Width} {a : Word}
    (hmis : ¬ (s.cfg.misalignedData = .refuse ∧ a.toNat % w.bytes ≠ 0)) (h : Unmapped s a w.bytes) :
    s.readFault a w = some (.unmappedAccess s.pc a) := by
  rw [← State.misaligned_eq_true_iff, Bool.not_eq_true, State.misaligned_eq_false_iff] at hmis
  exact (s.readFault_eq_some_iff a w _).mpr (.inr ⟨hmis, fun hacc => ((accessible_iff s w a).mp hacc).2 h, rfl⟩)

/-! ## The order of the faults of a step (spec/60_exceptions.md R375) -/

/-- Settles O29: each fault is that of its stage, and the stages before it answered. -/
theorem faultOrderOfAStep : Obligations.FaultOrderOfAStep := by
  intro s hnotEnd unmapped misaligned text d unfetchable
  have hend : s.atEnd = false := s.atEnd_eq_false_iff.mpr hnotEnd
  have hfetch : s.pc.toNat % 4 = 0 → ¬ unfetchable → s.fetch = .ok (BitVec.ofNat 32 (wordAt s s.pc)) :=
    State.fetch_of_not_unfetchable
  refine ⟨fun hpc => ?misalignedFetch, fun hpc hun => ?unmappedFetch, fun hpc hun hd => ?illegal,
    fun hpc hun hd => ?reserved, fun i w ea hpc hun hd => ?access⟩
  case misalignedFetch => exact step_of_fetch_error s _ hend (s.fetch_of_misaligned hpc)
  case unmappedFetch => exact step_of_fetch_error s _ hend ((s.fetch_eq_error_iff _).mpr (.inr ⟨hpc, hun, rfl⟩))
  case illegal => exact step_of_illegalInstruction hend (hfetch hpc hun) hd
  case reserved => exact step_of_reservedEncoding hend (hfetch hpc hun) hd
  case access =>
    rw [step_of_fetchDecode_ok s i hend (s.fetchDecode_of_fetch_ok _ i (hfetch hpc hun) hd)]
    refine ⟨fun hacc hmis => exec_of_readFault hacc (State.readFault_of_misaligned hmis),
      fun hacc hmis hmap => exec_of_readFault hacc (State.readFault_of_unmapped hmis hmap),
      fun hstore hmis hmap ⟨himm, k, hk, htext⟩ => ?_⟩
    exact exec_textWrite hstore ((accessible_iff s w ea).mpr ⟨hmis, hmap⟩) (not_writable_of_inText himm hk htext)

/-! ## The faults a step can answer (spec/60_exceptions.md R372) -/

/-- The faults before execution are that of the fetch and, for the word it answered, that of the decoding. -/
theorem State.fetchDecode_eq_error_iff (s : State) (f : Fault) :
    s.fetchDecode = .error f ↔
      s.fetch = .error f ∨ ∃ w, s.fetch = .ok w ∧ decodeFault s.pc (decode w) = .error f := by
  rw [State.fetchDecode]
  cases s.fetch <;> simp

/-- The fault of a step is one of the fetch, of the decoding, of the read of an access, or TextWrite. -/
theorem step_fault_cases {s : State} {f : Fault} (h : step s = .fault f) :
    s.fetch = .error f ∨ (f = .illegalInstruction s.pc ∨ f = .reservedEncoding s.pc) ∨
      ∃ w a, s.readFault a w = some f ∨ f = .textWrite s.pc a := by
  obtain ⟨-, hbefore | ⟨i, -, hexec⟩⟩ := (step_fault s f).mp h
  · obtain hfetch | ⟨w, -, hdecode⟩ := (s.fetchDecode_eq_error_iff f).mp hbefore
    · exact .inl hfetch
    · exact .inr (.inl (decodeFault_error hdecode))
  · obtain ⟨w, a, ⟨-, hread⟩ | ⟨-, hwrite⟩⟩ := exec_fault hexec
    · exact .inr (.inr ⟨w, a, .inl hread⟩)
    · exact .inr (.inr ⟨w, a, ((s.writeFault_eq_some_iff a w f).mp hwrite).imp_right fun ⟨_, _, hf⟩ => hf⟩)

/-- Every address is in the default `MEM_MAP` (R51, D5). -/
theorem not_unmapped_of_default {s : State} (hmap : s.cfg.memMap = Config.default.memMap) (a : Word) (n : Nat) :
    ¬ Unmapped s a n := by
  rintro ⟨k, -, hk⟩
  have hlt := (a + BitVec.ofNat 32 k).isLt
  simp [State.mapped, hmap, Config.default, regionsHave, regionHas] at hk
  omega

/-- Settles O53: the default map and a pc in the text leave a fetch only its misalignment, and the read of an access no
fault; and each fault of `step_fault_cases` records pc. -/
theorem defaultFaults : Obligations.DefaultFaults := by
  refine ⟨fun s f hmap hallow hreset h => ?default, fun s f h => ?any⟩
  case default =>
    have hfetchable : ¬ Unfetchable s := by
      rintro (hun | ⟨hpc, hout⟩)
      · exact not_unmapped_of_default hmap _ _ hun
      · simp [hreset hpc] at hout
    have hread : ∀ w a, s.readFault a w = none := fun w a =>
      (s.readFault_eq_none_iff a w).mpr
        ((accessible_iff s w a).mpr ⟨by simp [hallow], not_unmapped_of_default hmap a _⟩)
    obtain hfetch | (rfl | rfl) | ⟨w, a, hfault | rfl⟩ := step_fault_cases h
    · obtain ⟨-, rfl⟩ | ⟨-, hun, -⟩ := (s.fetch_eq_error_iff f).mp hfetch
      · simp
      · exact absurd hun hfetchable
    · simp
    · simp
    · simp [hread] at hfault
    · simp
  case any =>
    obtain hfetch | (rfl | rfl) | ⟨w, a, hfault | rfl⟩ := step_fault_cases h
    · obtain rfl | rfl := State.fetch_error hfetch <;> simp
    · simp
    · simp
    · obtain ⟨-, -, rfl⟩ | ⟨-, -, rfl⟩ := (s.readFault_eq_some_iff a w f).mp hfault <;> simp
    · simp

end Sys2Proof.Machine

/-!
PROOFS. Runs and launches (spec/70_reset_and_hazards.md). A run is a composition of steps and stops where there is no
next state, so where it stops is unique. A launch is read off state by state: the text it stores, the data over it, the
registers it sets, and the configuration it names. Settles O30, O59 and O60.
-/

namespace Sys2Proof.Machine

/-! ## Where a run stops (R405) -/

theorem State.atEnd_eq_true_iff (s : State) : s.atEnd = true ↔ s.cfg.endPc = some s.pc := by
  rw [← Bool.not_eq_false, State.atEnd_eq_false_iff, ne_eq, not_not]

/-- No instruction is refused: each form answers a next state or the fault of its access. -/
theorem exec_ne_refused (i : Instr) (s : State) (r : Refusal) : exec i s ≠ .refused r := by
  intro h
  cases execForm i with
  | loads w e rd ea hexec =>
    rw [hexec, load] at h
    cases hread : s.memRead (ea s) w <;> simp [hread] at h
  | stores w rb ea hexec =>
    rw [hexec, store] at h
    cases hwrite : s.memWrite (ea s) w (s.reg rb).u <;> simp [hwrite] at h
  | writesReg _ _ hexec | writesRegFlags _ _ hexec | writesFlags _ hexec | advances hexec | branches _ _ hexec
  | jumps _ hexec | links _ _ hexec => cases (hexec s).symm.trans h

/-- The only refusal is that of a final state (assumption 19). -/
theorem step_refused (s : State) (r : Refusal) : step s = .refused r ↔ s.atEnd = true ∧ r = .runEnded := by
  unfold step
  cases s.atEnd with
  | true => simp [eq_comm]
  | false => cases s.fetchDecode <;> simp [exec_ne_refused]

/-- The state has no next state. -/
def Stopped (s : State) : Prop := ∀ t, step s ≠ .next t

/-- A run stops at its end or at a fault. -/
theorem stopped_iff (s : State) : Stopped s ↔ s.atEnd = true ∨ ∃ f, step s = .fault f := by
  rw [Stopped]
  cases h : step s with
  | next t => simpa [h] using ((step_next s t).mp h).1
  | fault f => simp
  | refused r => simpa using ((step_refused s r).mp h).1

theorem stopped_of_atEnd {s : State} (h : s.atEnd = true) : Stopped s := (stopped_iff s).mpr (.inl h)

theorem stopped_of_fault {s : State} {f : Fault} (h : step s = .fault f) : Stopped s :=
  (stopped_iff s).mpr (.inr ⟨f, h⟩)

/-- Runs compose. -/
theorem runsTo_add (j k : Nat) (s t : State) : runsTo (j + k) s t ↔ ∃ u, runsTo j s u ∧ runsTo k u t := by
  induction j generalizing s with
  | zero => simp [runsTo_zero]
  | succ j ih =>
    rw [Nat.succ_add, runsTo_succ]
    simp only [ih, runsTo_succ]
    exact ⟨fun ⟨v, hv, u, hu, ht⟩ => ⟨u, ⟨v, hv, hu⟩, ht⟩, fun ⟨u, ⟨v, hv, hu⟩, ht⟩ => ⟨v, hv, u, hu, ht⟩⟩

/-- A number of steps leads to one state at most. -/
theorem runsTo_unique {k : Nat} {s t u : State} (ht : runsTo k s t) (hu : runsTo k s u) : t = u :=
  Host.Outcome.next.inj (ht.symm.trans hu)

/-- A run goes no further than where it stops. -/
theorem le_of_runsTo_stopped {k j : Nat} {s t u : State} (ht : runsTo k s t) (hstop : Stopped t)
    (hu : runsTo j s u) : j ≤ k := by
  by_contra hlt
  obtain ⟨m, rfl⟩ := Nat.exists_eq_add_of_lt (not_le.mp hlt)
  obtain ⟨t', ht', hrest⟩ := (runsTo_add k (m + 1) s u).mp hu
  obtain rfl := runsTo_unique ht ht'
  obtain ⟨v, hstep, -⟩ := (runsTo_succ m t u).mp hrest
  exact hstop v hstep

theorem stopped_unique {k j : Nat} {s t u : State} (ht : runsTo k s t) (hstop : Stopped t) (hu : runsTo j s u)
    (hstop' : Stopped u) : k = j ∧ t = u := by
  obtain rfl := Nat.le_antisymm (le_of_runsTo_stopped hu hstop' ht) (le_of_runsTo_stopped ht hstop hu)
  exact ⟨rfl, runsTo_unique ht hu⟩

theorem not_forever_of_stopped {k : Nat} {s t : State} (ht : runsTo k s t) (hstop : Stopped t) :
    ¬ ∀ j, ∃ u, runsTo j s u := fun hall =>
  have ⟨_, hu⟩ := hall (k + 1)
  absurd (le_of_runsTo_stopped ht hstop hu) (Nat.not_succ_le_self k)

/-- A run that stops nowhere goes on for any number of steps. -/
theorem runsTo_of_never_stopped {s : State} (h : ∀ k t, runsTo k s t → ¬ Stopped t) (k : Nat) : ∃ t, runsTo k s t := by
  induction k with
  | zero => exact ⟨s, (runsTo_zero s s).mpr rfl⟩
  | succ k ih =>
    obtain ⟨t, ht⟩ := ih
    obtain ⟨u, hu⟩ : ∃ u, step t = .next u := by simpa [Stopped] using h k t ht
    exact ⟨u, (runsTo_add k 1 s u).mpr ⟨t, ht, (runsTo_succ 0 t u).mpr ⟨u, hu, (runsTo_zero u u).mpr rfl⟩⟩⟩

theorem run_stops_or_forever (s : State) :
    (∃ k t, endsAfter k s t) ∨ (∃ k f, faultsAfter k s f) ∨ (∀ k, ∃ t, runsTo k s t ∧ t.atEnd = false) := by
  by_cases h : ∃ k t, runsTo k s t ∧ Stopped t
  · obtain ⟨k, t, ht, hstop⟩ := h
    obtain hend | ⟨f, hf⟩ := (stopped_iff t).mp hstop
    · exact .inl ⟨k, t, ht, hend⟩
    · exact .inr (.inl ⟨k, f, t, ht, hf⟩)
  · push Not at h
    refine .inr (.inr fun k => ?_)
    obtain ⟨t, ht⟩ := runsTo_of_never_stopped h k
    exact ⟨t, ht, Bool.eq_false_iff.mpr fun hend => h k t ht (stopped_of_atEnd hend)⟩

/-- Settles O30: a run that stops does so in one place, and the step from there tells an end from a fault. -/
theorem runOutcomes : Obligations.RunOutcomes := by
  refine ⟨State.atEnd_eq_true_iff, fun s => by simp [step_refused], fun s => ⟨run_stops_or_forever s, ?exclusive,
    fun k t ⟨ht, hend⟩ => not_forever_of_stopped ht (stopped_of_atEnd hend),
    fun k f ⟨t, ht, hf⟩ => not_forever_of_stopped ht (stopped_of_fault hf),
    fun k j t u ⟨ht, hend⟩ ⟨hu, hend'⟩ => stopped_unique ht (stopped_of_atEnd hend) hu (stopped_of_atEnd hend'),
    ?fault⟩⟩
  case exclusive =>
    rintro k t j f ⟨ht, hend⟩ ⟨u, hu, hf⟩
    obtain ⟨-, rfl⟩ := stopped_unique ht (stopped_of_atEnd hend) hu (stopped_of_fault hf)
    have hnotEnd := ((step_fault t f).mp hf).1
    exact Bool.false_ne_true (hnotEnd.symm.trans hend)
  case fault =>
    rintro k j f g ⟨t, ht, hf⟩ ⟨u, hu, hg⟩
    obtain ⟨rfl, rfl⟩ := stopped_unique ht (stopped_of_fault hf) hu (stopped_of_fault hg)
    exact ⟨rfl, Host.Outcome.fault.inj (hf.symm.trans hg)⟩

/-! ## The addresses of a run of bytes (spec/20_memory.md R43, R49) -/

/-- Where the addresses do not wrap, they are an interval. -/
theorem touches_iff_of_le {a : Word} {n : Nat} (hfit : a.toNat + n ≤ 2 ^ 32) (b : Word) :
    touches a n b ↔ a.toNat ≤ b.toNat ∧ b.toNat < a.toNat + n := by
  constructor
  · rintro ⟨i, hi, rfl⟩
    rw [BitVec.toNat_add, BitVec.toNat_ofNat]
    omega
  · rintro ⟨hle, hlt⟩
    refine ⟨b.toNat - a.toNat, by omega, BitVec.eq_of_toNat_eq ?_⟩
    rw [BitVec.toNat_add, BitVec.toNat_ofNat]
    omega

/-- The bytes of an access that starts `i` bytes on are among those of the longer one. -/
theorem touches_of_touches_add {a b : Word} {i m n : Nat} (hle : i + m ≤ n) (h : touches (a + BitVec.ofNat 32 i) m b) :
    touches a n b := by
  obtain ⟨k, hk, rfl⟩ := h
  exact ⟨i + k, by omega, by rw [BitVec.add_assoc, BitVec.ofNat_add]⟩

/-- Two accesses one after the other share no byte, if both fit into the address space. -/
theorem not_touches_of_touches_after {a b : Word} {m n : Nat} (hfit : m + n ≤ 2 ^ 32) (h : touches a m b) :
    ¬ touches (a + BitVec.ofNat 32 m) n b := by
  obtain ⟨i, hi, rfl⟩ := h
  rintro ⟨k, hk, heq⟩
  have hnat := congrArg BitVec.toNat heq
  simp only [BitVec.toNat_add, BitVec.toNat_ofNat] at hnat
  omega

/-- A word is its four bytes in the byte order. -/
theorem wordAt_congr {s t : State} {a : Word} (horder : t.cfg.byteOrder = s.cfg.byteOrder)
    (hbytes : ∀ b, touches a 4 b → t.byteAt b = s.byteAt b) : wordAt t a = wordAt s a := by
  have hmap : (byteAddrs a 4).map t.byteAt = (byteAddrs a 4).map s.byteAt :=
    List.map_congr_left fun b hb => hbytes b ((mem_byteAddrs a b 4).mp hb)
  rw [← State.readValue_four, ← State.readValue_four, State.readValue, State.readValue, horder, hmap]

/-! ## The words of one text region (R406) -/

@[simp] theorem State.pokeWords_x (s : State) (a : Word) (ws : List Word) : (s.pokeWords a ws).x = s.x := by
  induction ws generalizing s a with
  | nil => rfl
  | cons w ws ih => exact ih _ _

@[simp] theorem State.pokeWords_cfg (s : State) (a : Word) (ws : List Word) : (s.pokeWords a ws).cfg = s.cfg := by
  induction ws generalizing s a with
  | nil => rfl
  | cons w ws ih => exact ih _ _

theorem State.byteAt_pokeWords_other (s : State) (a b : Word) (ws : List Word) (h : ¬ touches a (4 * ws.length) b) :
    (s.pokeWords a ws).byteAt b = s.byteAt b := by
  induction ws generalizing s a with
  | nil => rfl
  | cons w ws ih =>
    rw [List.length_cons] at h
    have hle : 4 + 4 * ws.length ≤ 4 * (ws.length + 1) := by omega
    have hrest : ¬ touches (a + 4) (4 * ws.length) b := mt (touches_of_touches_add hle) h
    have hfirst : ¬ touches a 4 b := fun ⟨i, hi, hb⟩ => h ⟨i, by omega, hb⟩
    rw [State.pokeWords, ih _ _ hrest, State.byteAt_pokeValue_other _ _ _ _ _ hfirst]

/-- Each word reads back: the words after it are stored elsewhere. -/
theorem State.wordAt_pokeWords (s : State) (a : Word) (ws : List Word) (hfit : 4 * ws.length ≤ 2 ^ 32) (k : Nat)
    (hk : k < ws.length) : wordAt (s.pokeWords a ws) (a + BitVec.ofNat 32 (4 * k)) = (ws[k]'hk).toNat := by
  induction ws generalizing s a k with
  | nil => exact absurd hk (Nat.not_lt_zero k)
  | cons w ws ih =>
    rw [List.length_cons] at hfit hk
    cases k with
    | zero =>
      have hfit' : 4 + 4 * ws.length ≤ 2 ^ 32 := by omega
      have hlater : ∀ b, touches a 4 b → ((s.pokeValue a 4 w.toNat).pokeWords (a + 4) ws).byteAt b =
          (s.pokeValue a 4 w.toNat).byteAt b := fun b hb =>
        State.byteAt_pokeWords_other _ _ _ _ (not_touches_of_touches_after hfit' hb)
      have hstored := s.readValue_pokeValue a 4 w.toNat (by omega)
      rw [Nat.mul_zero, BitVec.add_zero, State.pokeWords, wordAt_congr (by simp) hlater, ← State.readValue_four,
        hstored]
      exact Nat.mod_eq_of_lt w.isLt
    | succ k =>
      have haddr : a + BitVec.ofNat 32 (4 * (k + 1)) = a + 4 + BitVec.ofNat 32 (4 * k) := by
        rw [Nat.mul_succ, Nat.add_comm, BitVec.ofNat_add, ← BitVec.add_assoc]
        rfl
      rw [haddr, State.pokeWords]
      exact ih _ _ (by omega) k (by omega)

/-! ## The text regions of a launch (spec/20_memory.md R58; R406) -/

/-- The region lies within the address space (assumption 27). -/
def TextRegion.Fits (g : TextRegion) : Prop := g.base.toNat + 4 * g.words.length ≤ 2 ^ 32

/-- An address of the region. -/
def TextRegion.Has (g : TextRegion) (a : Word) : Prop := touches g.base (4 * g.words.length) a

/-- The same as an interval of numbers, as the statements write it. -/
theorem TextRegion.has_iff {g : TextRegion} (hfit : g.Fits) (a : Word) :
    g.Has a ↔ g.base.toNat ≤ a.toNat ∧ a.toNat < g.base.toNat + 4 * g.words.length :=
  touches_iff_of_le hfit a

/-- The four bytes of word `k` are in the region. -/
theorem TextRegion.has_of_touches_word {g : TextRegion} {k : Nat} {b : Word} (hk : k < g.words.length)
    (h : touches (g.base + BitVec.ofNat 32 (4 * k)) 4 b) : g.Has b :=
  touches_of_touches_add (by omega) h

theorem TextRegion.not_has_of_apart {g h : TextRegion} (hg : g.Fits) (hh : h.Fits) (hapart : g.apart h = true)
    {a : Word} (ha : g.Has a) : ¬ h.Has a := by
  rw [TextRegion.has_iff hg] at ha
  rw [TextRegion.has_iff hh]
  simp only [TextRegion.apart, Bool.or_eq_true, decide_eq_true_eq] at hapart
  simp only [TextRegion.region] at hapart
  omega

@[simp] theorem State.pokeText_x (s : State) (gs : List TextRegion) : (s.pokeText gs).x = s.x := by
  induction gs generalizing s with
  | nil => rfl
  | cons g gs ih => rw [State.pokeText, ih, State.pokeWords_x]

@[simp] theorem State.pokeText_cfg (s : State) (gs : List TextRegion) : (s.pokeText gs).cfg = s.cfg := by
  induction gs generalizing s with
  | nil => rfl
  | cons g gs ih => rw [State.pokeText, ih, State.pokeWords_cfg]

theorem State.byteAt_pokeText_other (s : State) (gs : List TextRegion) (a : Word) (h : ∀ g ∈ gs, ¬ g.Has a) :
    (s.pokeText gs).byteAt a = s.byteAt a := by
  induction gs generalizing s with
  | nil => rfl
  | cons g gs ih =>
    obtain ⟨hg, hgs⟩ := List.forall_mem_cons.mp h
    rw [State.pokeText, ih _ hgs, State.byteAt_pokeWords_other _ _ _ _ hg]

/-- Each word of each region reads back: no later region lies on it. -/
theorem State.wordAt_pokeText (s : State) (gs : List TextRegion) (hfit : ∀ g ∈ gs, g.Fits)
    (hapart : gs.Pairwise fun g h => g.apart h = true) (g : TextRegion) (hg : g ∈ gs) (k : Nat)
    (hk : k < g.words.length) :
    wordAt (s.pokeText gs) (g.base + BitVec.ofNat 32 (4 * k)) = (g.words[k]'hk).toNat := by
  induction gs generalizing s with
  | nil => exact absurd hg List.not_mem_nil
  | cons g' gs ih =>
    obtain ⟨hfit', hfits⟩ := List.forall_mem_cons.mp hfit
    obtain ⟨hapart', haparts⟩ := List.pairwise_cons.mp hapart
    rw [State.pokeText]
    obtain rfl | hg := List.mem_cons.mp hg
    · have hlater : ∀ b, touches (g.base + BitVec.ofNat 32 (4 * k)) 4 b →
          ((s.pokeWords g.base g.words).pokeText gs).byteAt b = (s.pokeWords g.base g.words).byteAt b := fun b hb =>
        State.byteAt_pokeText_other _ _ _ fun h hh =>
          TextRegion.not_has_of_apart hfit' (hfits h hh) (hapart' h hh) (g.has_of_touches_word hk hb)
      rw [wordAt_congr (by simp) hlater, State.wordAt_pokeWords _ _ _ (le_of_add_le_right hfit')]
    · exact ih _ hfits haparts hg

/-! ## The registers of a launch (R406) -/

@[simp] theorem State.setRegs_mem (s : State) (rvs : List (Reg × Word)) : (s.setRegs rvs).mem = s.mem := by
  induction rvs generalizing s with
  | nil => rfl
  | cons rv rvs ih => exact ih _

theorem State.reg_setRegs_other (s : State) (rvs : List (Reg × Word)) (r : Reg) (h : r ∉ rvs.map (·.1)) :
    (s.setRegs rvs).reg r = s.reg r := by
  induction rvs generalizing s with
  | nil => rfl
  | cons rv rvs ih =>
    rw [List.map_cons, List.mem_cons, not_or] at h
    rw [State.setRegs, ih _ h.2, State.reg_setReg_other _ _ _ _ h.1]

theorem State.reg_setRegs_mem (s : State) (rvs : List (Reg × Word)) (hn : (rvs.map (·.1)).Nodup)
    (rv : Reg × Word) (h : rv ∈ rvs) : (s.setRegs rvs).reg rv.1 = rv.2 := by
  induction rvs generalizing s with
  | nil => exact absurd h List.not_mem_nil
  | cons rv' rvs ih =>
    rw [List.map_cons, List.nodup_cons] at hn
    rw [State.setRegs]
    obtain rfl | h := List.mem_cons.mp h
    · rw [State.reg_setRegs_other _ _ _ hn.1, State.reg_setReg_same]
    · exact ih _ hn.2 h

/-! ## The launched state (R405, R406) -/

section
variable {l : Launch}

/-- An address of the launch's text, as the statements write it. -/
def Launch.Inside (l : Launch) (a : Word) : Prop :=
  ∃ g ∈ l.text, g.base.toNat ≤ a.toNat ∧ a.toNat < g.base.toNat + 4 * g.words.length

theorem Launch.regionsHave_textRegions (l : Launch) (a : Word) :
    regionsHave l.textRegions a.toNat = true ↔ l.Inside a := by
  simp only [regionsHave, regionHas, Launch.textRegions, List.any_map, List.any_eq_true, Function.comp_apply,
    Bool.and_eq_true, decide_eq_true_eq]
  rfl

/-- The declared text is the text (R58). -/
theorem State.inText_launch (s : State) (l : Launch) (a : Word) : (s.launch l).inText a = true ↔ l.Inside a :=
  l.regionsHave_textRegions a

theorem Launch.wf_iff (l : Launch) : l.wf = true ↔ ∀ g ∈ l.text, g.base.toNat % 4 = 0 ∧ g.Fits := by
  simp only [Launch.wf, List.all_eq_true, Bool.and_eq_true, decide_eq_true_eq]
  rfl

theorem Launch.fits_of_wf (hwf : l.wf = true) : ∀ g ∈ l.text, g.Fits := fun g hg => (l.wf_iff.mp hwf g hg).2

theorem Launch.inside_iff_exists_has (hwf : l.wf = true) (a : Word) : l.Inside a ↔ ∃ g ∈ l.text, g.Has a :=
  exists_congr fun _ => and_congr_right fun hg => (TextRegion.has_iff (Launch.fits_of_wf hwf _ hg) a).symm

/-- No two regions share an address, no data byte is text, and no data byte and no register is fixed twice. -/
theorem Launch.unambiguous_iff (l : Launch) : l.unambiguous = true ↔
    l.text.Pairwise (fun g h => g.apart h = true) ∧ (∀ c ∈ l.data, ¬ l.Inside c.1) ∧ (l.data.map (·.1)).Nodup ∧
      (l.regs.map (·.1)).Nodup := by
  simp [Launch.unambiguous, ← Launch.regionsHave_textRegions, and_assoc]

theorem State.reg_launch (s : State) (l : Launch) (r : Reg) :
    (s.launch l).reg r = ((s.pokeText l.text).setRegs l.regs).reg r := rfl

theorem State.byteAt_launch (s : State) (l : Launch) (a : Word) : (s.launch l).byteAt a =
    ((s.pokeText l.text).mem.writeAll (l.data.map fun c => (c.1.toNat, c.2))).read a.toNat := by
  rw [State.byteAt, ← State.setRegs_mem (s.pokeText l.text) l.regs]
  rfl

/-- Where no data byte is placed, memory is as the text left it. -/
theorem State.byteAt_launch_of_not_data (s : State) {a : Word} (h : a ∉ l.data.map (·.1)) :
    (s.launch l).byteAt a = (s.pokeText l.text).byteAt a := by
  rw [State.byteAt_launch, Memory.read_writeAll_other _ _ _ ?_, State.byteAt]
  rintro cell hcell heq
  obtain ⟨c, hc, rfl⟩ := List.mem_map.mp hcell
  exact h (List.mem_map.mpr ⟨c, hc, BitVec.eq_of_toNat_eq heq⟩)

theorem State.byteAt_launch_data (s : State) (hn : (l.data.map (·.1)).Nodup) {c : Word × Byte} (hc : c ∈ l.data) :
    (s.launch l).byteAt c.1 = c.2 := by
  have hnodup : ((l.data.map fun c => (c.1.toNat, c.2)).map (·.1)).Nodup := by
    have htoNat := hn.map fun _ _ => BitVec.eq_of_toNat_eq
    rwa [List.map_map] at htoNat ⊢
  rw [State.byteAt_launch]
  exact Memory.read_writeAll_mem _ _ _ hnodup (List.mem_map_of_mem hc)

theorem State.byteAt_launch_other (s : State) (hwf : l.wf = true) {a : Word} (hout : ¬ l.Inside a)
    (hdata : a ∉ l.data.map (·.1)) : (s.launch l).byteAt a = s.byteAt a := by
  have htext : ∀ g ∈ l.text, ¬ g.Has a := fun g hg hhas =>
    hout ((Launch.inside_iff_exists_has hwf a).mpr ⟨g, hg, hhas⟩)
  rw [s.byteAt_launch_of_not_data hdata, s.byteAt_pokeText_other l.text a htext]

/-- Each word of the text reads back: the data lie elsewhere. -/
theorem State.wordAt_launch (s : State) (hwf : l.wf = true) (hun : l.unambiguous = true) {g : TextRegion}
    (hg : g ∈ l.text) (k : Nat) (hk : k < g.words.length) :
    wordAt (s.launch l) (g.base + BitVec.ofNat 32 (4 * k)) = (g.words[k]'hk).toNat := by
  obtain ⟨hapart, hdata, -, -⟩ := l.unambiguous_iff.mp hun
  have hkept : ∀ b, touches (g.base + BitVec.ofNat 32 (4 * k)) 4 b →
      (s.launch l).byteAt b = (s.pokeText l.text).byteAt b := by
    refine fun b hb => s.byteAt_launch_of_not_data fun hmem => ?_
    obtain ⟨c, hc, rfl⟩ := List.mem_map.mp hmem
    exact hdata c hc ((Launch.inside_iff_exists_has hwf _).mpr ⟨g, hg, g.has_of_touches_word hk hb⟩)
  have horder : (s.launch l).cfg.byteOrder = (s.pokeText l.text).cfg.byteOrder := by
    rw [State.pokeText_cfg]
    rfl
  rw [wordAt_congr horder hkept, s.wordAt_pokeText l.text (Launch.fits_of_wf hwf) hapart g hg k hk]

end

/-- Settles O59: each part of the launch reads back, as nothing placed after it is placed on it. -/
theorem launchSetsTheRun : Obligations.LaunchSetsTheRun := by
  intro s l hwf hun inside t
  obtain ⟨-, -, hdata, hregs⟩ := l.unambiguous_iff.mp hun
  refine ⟨fun g hg => s.wordAt_launch hwf hun hg, fun c => s.byteAt_launch_data hdata,
    fun a => s.byteAt_launch_other hwf, s.inText_launch l, rfl, rfl, fun rv => ?named, fun r hr => ?unnamed,
    rfl, rfl, rfl, rfl⟩
  case named => exact State.reg_setRegs_mem _ _ hregs rv
  case unnamed =>
    rw [s.reg_launch, State.reg_setRegs_other _ _ _ hr, State.reg, State.pokeText_x, State.reg]

/-! ## The first step of a launch (R401) -/

theorem Launch.toNat_word_mod_four {l : Launch} (hwf : l.wf = true) {g : TextRegion} (hg : g ∈ l.text) (k : Nat) :
    (g.base + BitVec.ofNat 32 (4 * k)).toNat % 4 = 0 := by
  obtain ⟨haligned, -⟩ := l.wf_iff.mp hwf g hg
  rw [BitVec.toNat_add, BitVec.toNat_ofNat]
  omega

theorem Launch.inside_word {l : Launch} (hwf : l.wf = true) {g : TextRegion} (hg : g ∈ l.text) {k : Nat}
    (hk : k < g.words.length) : l.Inside (g.base + BitVec.ofNat 32 (4 * k)) :=
  (Launch.inside_iff_exists_has hwf _).mpr ⟨g, hg, 4 * k, by omega, rfl⟩

theorem inText_of_runsTo_launch {s u : State} {l : Launch} {k : Nat} (hrun : runsTo k (s.launch l) u)
    (hin : l.Inside l.resetPc) (hpc : u.cfg.resetPc = some u.pc) : u.inText u.pc = true := by
  have hcfg : u.cfg = (s.launch l).cfg := runKeepsConfiguration k _ u hrun
  rw [hcfg] at hpc
  have hstart : l.resetPc = u.pc := Option.some.inj hpc
  rw [State.inText, hcfg, ← hstart]
  exact (s.inText_launch l l.resetPc).mpr hin

/-- Settles O60: the order of the faults of a step (O29) and the step of a fetched word (O28), at `RESET_PC`; and a run
keeps `RESET_PC` and the text (O34). -/
theorem launchedRunStartsInText : Obligations.LaunchedRunStartsInText := by
  intro s l hne inside t
  have hnotEnd : t.cfg.endPc ≠ some t.pc := fun h => hne (Option.some.inj h)
  obtain ⟨hmisaligned, hunfetchable, -⟩ := faultOrderOfAStep t hnotEnd
  refine ⟨hmisaligned, fun hpc hout => hunfetchable hpc (.inr ⟨rfl, ?outside⟩),
    fun hwf hun g hg k hk i hstart hmapped hdecode => ?inText, fun hin k u hrun => inText_of_runsTo_launch hrun hin⟩
  case outside => exact Bool.eq_false_iff.mpr (mt (s.inText_launch l l.resetPc).mp hout)
  case inText =>
    have hpc : t.pc = g.base + BitVec.ofNat 32 (4 * k) := hstart
    have haligned : t.pc.toNat % 4 = 0 := hpc ▸ Launch.toNat_word_mod_four hwf hg k
    have hinText : t.inText t.pc = true := (s.inText_launch l t.pc).mpr (hpc ▸ Launch.inside_word hwf hg hk)
    have hword : wordAt t t.pc = (g.words[k]'hk).toNat := hpc ▸ s.wordAt_launch hwf hun hg k hk
    refine stepRunsDecodedInstruction t i hnotEnd haligned hmapped (fun _ => hinText) ?_
    rw [hword, BitVec.ofNat_toNat, BitVec.setWidth_eq]
    exact hdecode

end Sys2Proof.Machine
